-- ==== Sys2Proof/Word.lean ====
section
/-! DEFINITION. The word type of the phase encoder.

The block has one word that the spec treats as bits: the operation selector word (30_encoding.md R70). Every other
multi-bit element is "an unsigned integer of the stated width" (00_scope.md R11), held as a number; its width
arithmetic stands in Machine/Operands.lean. -/

namespace Sys2Proof

/-- The operation selector word, 8 bits (30_encoding.md R70). -/
abbrev Osw := BitVec 8

end Sys2Proof
end

