-- ==== Sys2Proof/Config.lean ====
section
/-! DEFINITION. The configuration record of 00_scope.md R6: what is fixed for a build of the block.

A field is a parameter of the model: every definition takes it from the record. `Config.build` is the record of the
build that `State.reset` starts from; its OPEN fields are free values, so nothing can be proved of them but that they
are in range (log entry 1). -/

namespace Sys2Proof

/-- The configuration record (00_scope.md R6). Durations are counts of timer ticks. -/
structure Config where
  /-- `CMD_W`: width of the command word. -/
  cmdW : Nat
  /-- `CNT_W`: width of the bits-remaining counter. -/
  cntW : Nat
  /-- `RPT_W`: width of the repeat counter. -/
  rptW : Nat
  /-- `TW`: width of the timer counter and of the compare register. -/
  tw : Nat
  /-- `PW`: width of the preamble hold counter. -/
  pw : Nat
  /-- `FRAME_LEN`: bits per frame. -/
  frameLen : Nat
  /-- `CMD_DOWN`: the "down" command bit pattern. -/
  cmdDown : Nat
  /-- `CMD_UP`: the "up" command bit pattern. -/
  cmdUp : Nat
  /-- `T_ON_LONG`: on-time of a 1 bit. -/
  tOnLong : Nat
  /-- `T_ON_SHORT`: on-time of a 0 bit. -/
  tOnShort : Nat
  /-- `T_OFF_SHORT`: off-time after a 1 bit. -/
  tOffShort : Nat
  /-- `T_OFF_LONG`: off-time after a 0 bit. -/
  tOffLong : Nat
  /-- `T_IDLE`: the idle-tick duration. -/
  tIdle : Nat
  /-- `DELAY_LEN`: idle ticks per inter-frame delay. -/
  delayLen : Nat
  /-- `REPEAT_PRIMARY`: frames in the primary burst. -/
  repeatPrimary : Nat
  /-- `REPEAT_FAILSAFE`: frames in the failsafe burst. -/
  repeatFailsafe : Nat
  /-- `INIT_DELAY`: the compare delay written when the encoder is armed. -/
  initDelay : Nat
  /-- `PRE_T0`: preamble "long high" hold. -/
  preT0 : Nat
  /-- `PRE_T1`: preamble "medium low" hold. -/
  preT1 : Nat
  /-- `PRE_T2`: preamble "short high" hold. -/
  preT2 : Nat
  /-- `PRE_T3`: preamble "long low" hold. -/
  preT3 : Nat
  /-- `LAT_MAX`: bound on interrupt latency (60_exceptions.md R155); 0 is the ideal block. -/
  latMax : Nat
  /-- `CLOCK_DIV`: opaque; no rule reads it. -/
  clockDiv : Nat
  /-- `FAILSAFE_EN`: whether a failsafe path is configured (00_scope.md R4). -/
  failsafeEn : Bool
deriving DecidableEq, Repr

/-- The names of the OPEN parameters (92_eei_decisions.md, table "OPEN parameters"). -/
inductive OpenParam where
  | frameLen | cmdDown | cmdUp | tOnLong | tOnShort | tOffShort | tOffLong | tIdle | delayLen
  | repeatPrimary | repeatFailsafe | initDelay | preT0 | preT1 | preT2 | preT3 | latMax | clockDiv
deriving DecidableEq, Repr

/-- FREE VALUE (log entry 1): what an implementer chooses for an OPEN parameter. The source gives no value
(91_not_in_source.md N1, N2), so this constant has no body. -/
opaque Config.openParam : OpenParam → Nat

/-- A free value brought into the range `1 .. hi` that R6 sets for it. -/
def Config.openUpTo (hi : Nat) (p : OpenParam) : Nat := 1 + Config.openParam p % hi

/-- The record `State.reset` starts from (log entry 1): the widths and `FAILSAFE_EN` at R6's decided and default
values, every OPEN field free inside its range. -/
def Config.build : Config where
  cmdW := 32
  cntW := 8
  rptW := 8
  tw := 8
  pw := 16
  frameLen := Config.openUpTo 32 .frameLen
  cmdDown := Config.openParam .cmdDown % 2 ^ 32
  cmdUp := Config.openParam .cmdUp % 2 ^ 32
  tOnLong := Config.openUpTo (2 ^ 8 - 1) .tOnLong
  tOnShort := Config.openUpTo (2 ^ 8 - 1) .tOnShort
  tOffShort := Config.openUpTo (2 ^ 8 - 1) .tOffShort
  tOffLong := Config.openUpTo (2 ^ 8 - 1) .tOffLong
  tIdle := Config.openUpTo (2 ^ 8 - 1) .tIdle
  delayLen := Config.openUpTo (2 ^ 8 - 1) .delayLen
  repeatPrimary := Config.openUpTo (2 ^ 8 - 1) .repeatPrimary
  repeatFailsafe := Config.openUpTo (2 ^ 8 - 1) .repeatFailsafe
  initDelay := Config.openUpTo (2 ^ 8 - 1) .initDelay
  preT0 := Config.openUpTo (2 ^ 16 - 1) .preT0
  preT1 := Config.openUpTo (2 ^ 16 - 1) .preT1
  preT2 := Config.openUpTo (2 ^ 16 - 1) .preT2
  preT3 := Config.openUpTo (2 ^ 16 - 1) .preT3
  latMax := Config.openParam .latMax
  clockDiv := Config.openParam .clockDiv
  failsafeEn := true

/-- The configuration of the spec's scenario S (95_test_vectors.md section 5.6 over the example configuration EX of
its section 0), with `LAT_MAX` 0, the ideal block, and `CLOCK_DIV`, which no rule reads, 1. It is the program that
`State.withFetchWord` loads (log entry 8); no meaning refers to it. -/
def Config.scenario : Config where
  cmdW := 32
  cntW := 8
  rptW := 8
  tw := 8
  pw := 16
  frameLen := 25
  cmdDown := 0b1010
  cmdUp := 0b0101
  tOnLong := 6
  tOnShort := 2
  tOffShort := 2
  tOffLong := 6
  tIdle := 10
  delayLen := 3
  repeatPrimary := 10
  repeatFailsafe := 20
  initDelay := 5
  preT0 := 8
  preT1 := 4
  preT2 := 2
  preT3 := 8
  latMax := 0
  clockDiv := 1
  failsafeEn := true

end Sys2Proof
end

