-- ==== Sys2Proof/Syntax.lean ====
section
/-! DEFINITION. The nine operations of spec/opcode_table.json (30_encoding.md R72), and the two fields of the selector
word that have names of their own.

A constructor's arguments are the letters of its row's pattern, from bit 7 down: `b` is B0, `f` is FS, `r` is ZR, `z` is
ZB, `ph` is PH (the letters `pp`). An operation's own operands are state (41_encoder.md R102 to R108): no meaning reads
these letters (log entry 7). -/

namespace Sys2Proof

/-- `PHASE`, and the field PH of the selector word: 0 ON, 1 OFF, 2 DELAY, 3 reserved (10_state.md R22). -/
inductive Phase where
  | on | off | delay | reserved
deriving DecidableEq, Repr

/-- The event sources that form a selector word: 0 timer compare match, 1 comparator falling edge, 2 leaving reset
(30_encoding.md R70). No rule forms `SRC` 3, so it has no constructor (R73). -/
inductive Src where
  | timer | comparator | reset
deriving DecidableEq, Repr

/-- The operations of the sequencer, one constructor per row of spec/opcode_table.json. -/
inductive Instr where
  /-- `ON`, pattern `bfrz0000` (41_encoder.md R102). -/
  | on (b f r z : Bool)
  /-- `OFF.NEXT`, pattern `bfr00100` (41_encoder.md R103). -/
  | offNext (b f r : Bool)
  /-- `OFF.END`, pattern `bfr10100` (41_encoder.md R104). -/
  | offEnd (b f r : Bool)
  /-- `DELAY.WAIT`, pattern `bfr01000` (41_encoder.md R105). -/
  | delayWait (b f r : Bool)
  /-- `DELAY.NEXT`, pattern `bf011000` (41_encoder.md R106). -/
  | delayNext (b f : Bool)
  /-- `DELAY.HALT`, pattern `b0111000` (41_encoder.md R107). -/
  | delayHalt (b : Bool)
  /-- `DELAY.FAILSAFE`, pattern `b1111000` (41_encoder.md R108). -/
  | delayFailsafe (b : Bool)
  /-- `PL.FIRE`, pattern `bfrzpp01` (42_power_loss.md R130). -/
  | plFire (b f r z : Bool) (ph : Phase)
  /-- `BOOT`, pattern `bfrzpp10` (70_reset_and_hazards.md R184). -/
  | boot (b f r z : Bool) (ph : Phase)
deriving DecidableEq, Repr

/-- The selector word's FS field as the instruction carries it: bit 6 (30_encoding.md R70). -/
def Instr.fsBit : Instr → Bool
  | .on _ f _ _ => f
  | .offNext _ f _ => f
  | .offEnd _ f _ => f
  | .delayWait _ f _ => f
  | .delayNext _ f => f
  | .delayHalt _ => false
  | .delayFailsafe _ => true
  | .plFire _ f _ _ _ => f
  | .boot _ f _ _ _ => f

end Sys2Proof
end

