-- ==== Sys2Proof/WellFormed.lean ====
section
/-! DEFINITION. The well-formedness checks: of a configuration (00_scope.md R6, R7) and of an instruction in a build. -/

namespace Sys2Proof

/-- `lo ≤ v ≤ hi`. -/
def inRange (lo hi v : Nat) : Bool := decide (lo ≤ v) && decide (v ≤ hi)

/-- The widths' ranges (R6): `TW ≥ 2`, every other width at least 1. -/
def Config.widthsOk (c : Config) : Bool :=
  decide (1 ≤ c.cmdW) && decide (1 ≤ c.cntW) && decide (1 ≤ c.rptW) && decide (2 ≤ c.tw) && decide (1 ≤ c.pw)

/-- `1 ≤ FRAME_LEN ≤ CMD_W` and `FRAME_LEN ≤ 2^CNT_W − 1` (R6). -/
def Config.frameLenOk (c : Config) : Bool :=
  inRange 1 c.cmdW c.frameLen && decide (c.frameLen ≤ 2 ^ c.cntW - 1)

/-- The two commands are `CMD_W`-bit (R6); bits from `FRAME_LEN` up are free (R8). -/
def Config.commandsOk (c : Config) : Bool :=
  decide (c.cmdDown < 2 ^ c.cmdW) && decide (c.cmdUp < 2 ^ c.cmdW)

/-- Every duration the timer counts is in `1 .. 2^TW − 1` (R6). No order between them is asked (90_conflicts.md C5). -/
def Config.durationsOk (c : Config) : Bool :=
  inRange 1 (2 ^ c.tw - 1) c.tOnLong && inRange 1 (2 ^ c.tw - 1) c.tOnShort &&
  inRange 1 (2 ^ c.tw - 1) c.tOffShort && inRange 1 (2 ^ c.tw - 1) c.tOffLong &&
  inRange 1 (2 ^ c.tw - 1) c.tIdle && inRange 1 (2 ^ c.tw - 1) c.initDelay

/-- `DELAY_LEN` is in `1 .. 2^CNT_W − 1` and both repeat counts in `1 .. 2^RPT_W − 1` (R6). -/
def Config.countsOk (c : Config) : Bool :=
  inRange 1 (2 ^ c.cntW - 1) c.delayLen &&
  inRange 1 (2 ^ c.rptW - 1) c.repeatPrimary && inRange 1 (2 ^ c.rptW - 1) c.repeatFailsafe

/-- Every preamble hold is in `1 .. 2^PW − 1` (R6). -/
def Config.preambleOk (c : Config) : Bool :=
  inRange 1 (2 ^ c.pw - 1) c.preT0 && inRange 1 (2 ^ c.pw - 1) c.preT1 &&
  inRange 1 (2 ^ c.pw - 1) c.preT2 && inRange 1 (2 ^ c.pw - 1) c.preT3

/-- A configuration is well-formed when every field is inside the range of R6 (R7). -/
def Config.wf (c : Config) : Bool :=
  c.widthsOk && c.frameLenOk && c.commandsOk && c.durationsOk && c.countsOk && c.preambleOk

/-- An instruction is well-formed in a build when the build can form its selector word: FS is `LOWERING AND
FAILSAFE_EN` (30_encoding.md R70), so no word with FS = 1 is formed without a failsafe path. Every other field takes
both values in some state. The decoder, which knows no build, reads all of them. -/
def Instr.wf (c : Config) (i : Instr) : Bool := !i.fsBit || c.failsafeEn

end Sys2Proof
end

