-- ==== Sys2Proof/Decode.lean ====
section
/-! DEFINITION. Decoding an operation selector word (30_encoding.md R72, R73), and encoding an instruction from the same
table. -/

namespace Sys2Proof

/-- Why a selector word selects no operation (30_encoding.md R73). -/
inductive DecodeError where
  /-- `SRC` = 00 with `PH` = 11 (match 0x0C, mask 0x0F): the operation raises `RESERVED_PHASE`. -/
  | reservedPhase
  /-- `SRC` = 11 (match 0x03, mask 0x03): no rule forms it; a decoder answers "invalid". -/
  | invalidSource
deriving DecidableEq, Repr

/-- The 2-bit code of a phase (10_state.md R22). -/
def Phase.code : Phase → BitVec 2
  | .on => 0
  | .off => 1
  | .delay => 2
  | .reserved => 3

/-- The phase of a 2-bit code (10_state.md R22). -/
def Phase.ofCode (v : BitVec 2) : Phase :=
  match v.toNat with
  | 0 => .on
  | 1 => .off
  | 2 => .delay
  | _ => .reserved

/-- The 2-bit code of an event source (30_encoding.md R70). -/
def Src.code : Src → BitVec 2
  | .timer => 0
  | .comparator => 1
  | .reset => 2

/-- The concatenation `{B0, FS, ZR, ZB, PH, SRC}`, B0 at bit 7 and SRC at bits 1:0 (30_encoding.md R71). -/
def packOsw (b f r z : Bool) (ph : Phase) (src : BitVec 2) : Osw :=
  BitVec.ofBool b ++ BitVec.ofBool f ++ BitVec.ofBool r ++ BitVec.ofBool z ++ ph.code ++ src

/-- Field B0, bit 7. -/
def oswB (w : Osw) : Bool := w.getLsbD 7
/-- Field FS, bit 6. -/
def oswF (w : Osw) : Bool := w.getLsbD 6
/-- Field ZR, bit 5. -/
def oswR (w : Osw) : Bool := w.getLsbD 5
/-- Field ZB, bit 4. -/
def oswZ (w : Osw) : Bool := w.getLsbD 4
/-- Field PH, bits 3:2. -/
def oswPh (w : Osw) : Phase := Phase.ofCode (w.extractLsb' 2 2)

/-- A row of the opcode map: it selects `build w` for the words `w` with `w AND mask = pattern` (30_encoding.md R72). -/
structure OpRow where
  mnemonic : String
  pattern : Osw
  mask : Osw
  build : Osw → Instr

/-- The opcode map (30_encoding.md R72), row by row. -/
def opTable : List OpRow :=
  [ ⟨"ON", 0x00, 0x0F, fun w => .on (oswB w) (oswF w) (oswR w) (oswZ w)⟩,
    ⟨"OFF.NEXT", 0x04, 0x1F, fun w => .offNext (oswB w) (oswF w) (oswR w)⟩,
    ⟨"OFF.END", 0x14, 0x1F, fun w => .offEnd (oswB w) (oswF w) (oswR w)⟩,
    ⟨"DELAY.WAIT", 0x08, 0x1F, fun w => .delayWait (oswB w) (oswF w) (oswR w)⟩,
    ⟨"DELAY.NEXT", 0x18, 0x3F, fun w => .delayNext (oswB w) (oswF w)⟩,
    ⟨"DELAY.HALT", 0x38, 0x7F, fun w => .delayHalt (oswB w)⟩,
    ⟨"DELAY.FAILSAFE", 0x78, 0x7F, fun w => .delayFailsafe (oswB w)⟩,
    ⟨"PL.FIRE", 0x01, 0x03, fun w => .plFire (oswB w) (oswF w) (oswR w) (oswZ w) (oswPh w)⟩,
    ⟨"BOOT", 0x02, 0x03, fun w => .boot (oswB w) (oswF w) (oswR w) (oswZ w) (oswPh w)⟩ ]

/-- The word matches the row (30_encoding.md R72). -/
def OpRow.matchesWord (row : OpRow) (w : Osw) : Bool := w &&& row.mask == row.pattern

/-- The decoder (30_encoding.md R72, R73): the first row that matches; a word no row matches is one of the two
reserved regions, rejected by its name. -/
def decode (w : Osw) : Except DecodeError Instr :=
  match opTable.find? (fun row => row.matchesWord w) with
  | some row => .ok (row.build w)
  | none => if w &&& 0x0F == 0x0C then .error .reservedPhase else .error .invalidSource

/-- The encoder: the selector word of an instruction, from the patterns of the opcode map (30_encoding.md R72). -/
def encode : Instr → Osw
  | .on b f r z => packOsw b f r z .on 0
  | .offNext b f r => packOsw b f r false .off 0
  | .offEnd b f r => packOsw b f r true .off 0
  | .delayWait b f r => packOsw b f r false .delay 0
  | .delayNext b f => packOsw b f false true .delay 0
  | .delayHalt b => packOsw b false true true .delay 0
  | .delayFailsafe b => packOsw b true true true .delay 0
  | .plFire b f r z ph => packOsw b f r z ph 1
  | .boot b f r z ph => packOsw b f r z ph 2

/-- The mnemonic of an operation (30_encoding.md R72, R76). -/
def Instr.mnemonic : Instr → String
  | .on _ _ _ _ => "ON"
  | .offNext _ _ _ => "OFF.NEXT"
  | .offEnd _ _ _ => "OFF.END"
  | .delayWait _ _ _ => "DELAY.WAIT"
  | .delayNext _ _ => "DELAY.NEXT"
  | .delayHalt _ => "DELAY.HALT"
  | .delayFailsafe _ => "DELAY.FAILSAFE"
  | .plFire _ _ _ _ _ => "PL.FIRE"
  | .boot _ _ _ _ _ => "BOOT"

/-- The instruction the decoder reads from a word given as spec/opcode_table.json numbers its bits. A selector word is
8 bits whole (30_encoding.md R75): a longer word with a bit set above them is none. -/
def decodeTableWord (nbits w : Nat) : Option Instr :=
  let v := w % 2 ^ nbits
  if v < 256 then (decode (BitVec.ofNat 8 v)).toOption else none

end Sys2Proof
end

