-- ==== Sys2Proof/Machine/State.lean ====
section
/-! DEFINITION. The state of the block (10_state.md R20), the reasons a step can stop, and the reset state
(70_reset_and_hazards.md R180). -/

namespace Sys2Proof.Machine

/-- `EXEC`: 0 RESET, 1 RUN, 2 PREAMBLE, 3 reserved (10_state.md R34). -/
inductive ExecState where
  | reset | run | preamble | reserved
deriving DecidableEq, Repr

/-- `PRE_CTX`: 0 BOOT, 1 PL (10_state.md R35). -/
inductive PreCtx where
  | boot | pl
deriving DecidableEq, Repr

/-- The fault reasons (60_exceptions.md R166). -/
inductive FaultReason where
  | reservedPhase | bothArmed | reservedExec
deriving DecidableEq, Repr

/-- A set of fault reasons, one membership bit each (10_state.md R37). -/
structure FaultSet where
  reservedPhase : Bool
  bothArmed : Bool
  reservedExec : Bool
deriving DecidableEq, Repr

/-- The empty fault set. -/
def FaultSet.empty : FaultSet := ⟨false, false, false⟩

/-- What the environment chooses for one tick (60_exceptions.md R160). -/
structure Env where
  /-- The comparator reports a falling transition in this tick (60_exceptions.md R145). -/
  fall : Bool
  /-- The accept draw (60_exceptions.md R155); false is a `hold` of 30_encoding.md R76. -/
  accept : Bool
  /-- The supply collapses in this tick (60_exceptions.md R161). -/
  powerOff : Bool
deriving DecidableEq, Repr

/-- A tick that no event of the script names (30_encoding.md R76): no edge, every pending enabled interrupt accepted,
power holds. -/
def Env.quiet : Env := ⟨false, true, false⟩

/-- Why the block takes no step. -/
inductive Fault where
  /-- `FAULT ≠ ∅`: the block takes no further step (60_exceptions.md R160, R166). Raised by the step of a state whose
  fault set is not empty. Safe: no state follows where the spec gives none. -/
  | faulted
  /-- `POWER = 0`: the run is over (60_exceptions.md R160, R161). Raised by the step of a state without power. Safe: no
  state follows where the spec gives none. -/
  | poweredOff
deriving DecidableEq, Repr

/-- What the model gives no meaning. -/
inductive Refusal where
  /-- An instruction that has no meaning yet: raised by an arm of `exec`, of which none is left. Safe. -/
  | notModelled (mnemonic : String)
  /-- An ill-formed configuration: "A model refuses an ill-formed configuration: it gives it no meaning and runs
  nothing" (00_scope.md R7). Raised by the step. Safe. -/
  | illFormedConfig
  /-- A selector word with `SRC` = 11: "A decoder given such a value answers "invalid", and a model refuses it"
  (30_encoding.md R73). Raised on entry of an operation; no rule forms such a word. Safe. -/
  | invalidSelector (w : Osw)
deriving DecidableEq, Repr

/-- The state record of 10_state.md R20 (S0 to S19), after the model's own three fields. -/
structure State where
  /-- MODEL's own (log entry 1): the configuration of the build; no operation writes it (20_memory.md R59). -/
  cfg : Config
  /-- MODEL's own (log entry 2): what the environment does in the coming ticks; a tick past its end is quiet. -/
  script : List Env
  /-- MODEL's own (log entry 3): how many consecutive ticks just past held a pending enabled interrupt. -/
  held : Nat
  /-- S0 `CMD`: the command word. -/
  cmd : Nat
  /-- S1 `PHASE`: the sequencer state. -/
  phase : Phase
  /-- S2 `BITS`: the bits-remaining counter. -/
  bits : Nat
  /-- S3 `REPEAT`: the repeat counter. -/
  repeats : Nat
  /-- S4 `LOWERING`: "down" is selected. -/
  lowering : Bool
  /-- S5 `TCNT`: the timer counter. -/
  tcnt : Nat
  /-- S6 `OCR`: the compare register. -/
  ocr : Nat
  /-- S7 `TOGGLE`: the auto-toggle output mode. -/
  toggle : Bool
  /-- S8 `TIF`: the timer-compare pending flag. -/
  tif : Bool
  /-- S9 `TIE`: the timer-compare interrupt enable. -/
  tie : Bool
  /-- S10 `CIF`: the comparator pending flag. -/
  cif : Bool
  /-- S11 `CIE`: the comparator interrupt enable. -/
  cie : Bool
  /-- S12 `GIE`: global interrupt delivery. -/
  gie : Bool
  /-- S13 `KEY`: the output pin level. -/
  key : Bool
  /-- S14 `EXEC`: the execution state. -/
  execSt : ExecState
  /-- S15 `PRE_CTX`: who started the current preamble. -/
  preCtx : PreCtx
  /-- S16 `PRE_STEP`: the current preamble hold. -/
  preStep : BitVec 2
  /-- S17 `PRE_CNT`: the ticks left in that hold. -/
  preCnt : Nat
  /-- S18 `FAULT`: the sticky fault set. -/
  fault : FaultSet
  /-- S19 `POWER`: the supply holds. -/
  power : Bool
deriving DecidableEq, Repr

/-- The reset state of a build with configuration `c` in an environment with script `env` (70_reset_and_hazards.md
R180). -/
def State.resetWith (c : Config) (env : List Env) : State where
  cfg := c
  script := env
  held := 0
  cmd := c.cmdDown
  phase := .on
  bits := c.frameLen
  repeats := c.repeatPrimary
  lowering := true
  tcnt := 0
  ocr := 0
  toggle := false
  tif := false
  tie := false
  cif := false
  cie := false
  gie := false
  key := false
  execSt := .reset
  preCtx := .boot
  preStep := 0
  preCnt := 0
  fault := .empty
  power := true

/-- The machine right after reset (70_reset_and_hazards.md R180), with no program placed: the build's OPEN parameters
are free (log entry 1) and the environment is quiet (log entry 2). -/
def State.reset : State := State.resetWith Config.build []

end Sys2Proof.Machine
end

