-- ==== Sys2Proof/Machine/Operands.lean ====
section
/-! DEFINITION. The values the operations compute: the width arithmetic of 00_scope.md R11 and 41_encoder.md R100, the
duration operands of 30_encoding.md R74, the Command Selector's read (20_memory.md R53) and the preamble's constants
(40_preamble.md R90). -/

namespace Sys2Proof.Machine

/-- `v` cut to a `W`-bit element: "truncated to the width" (00_scope.md R12). -/
def trunc (W v : Nat) : Nat := v % 2 ^ W

/-- `inc_W(v) = (v + 1) mod 2^W` (00_scope.md R11). -/
def inc (W v : Nat) : Nat := (v + 1) % 2 ^ W

/-- `dec_W(v) = (v + 2^W − 1) mod 2^W` (00_scope.md R11). -/
def dec (W v : Nat) : Nat := (v + 2 ^ W - 1) % 2 ^ W

/-- `v >> 1`: a logical shift right by one, a 0 entering at the top (00_scope.md R11). -/
def shiftRight1 (v : Nat) : Nat := v / 2

/-- `CMD[0]`, "the current low-order bit of the command word" (10_state.md R21). -/
def lowBit (s : State) : Bool := s.cmd.testBit 0

/-- `d_on(b)`: the on-duration of a bit (30_encoding.md R74). -/
def dOn (c : Config) (b : Bool) : Nat := if b then c.tOnLong else c.tOnShort

/-- `d_off(b)`: the complementary off-duration (30_encoding.md R74). -/
def dOff (c : Config) (b : Bool) : Nat := if b then c.tOffShort else c.tOffLong

/-- `SelCmd()`: the Command Selector's read (20_memory.md R53). -/
def selCmd (s : State) : Nat := if s.lowering then s.cfg.cmdDown else s.cfg.cmdUp

/-- `PRE_T[i]`: the ticks of preamble hold `i` (40_preamble.md R90). -/
def preTime (c : Config) (i : BitVec 2) : Nat :=
  match i.toNat with
  | 0 => c.preT0
  | 1 => c.preT1
  | 2 => c.preT2
  | _ => c.preT3

/-- `LEVEL[i]`: the level of preamble hold `i`, `[1, 0, 1, 0]` (40_preamble.md R90). -/
def preLevel (i : BitVec 2) : Bool :=
  match i.toNat with
  | 0 => true
  | 1 => false
  | 2 => true
  | _ => false

end Sys2Proof.Machine
end

