-- ==== Sys2Proof/Machine/Flags.lean ====
section
/-! DEFINITION. The conditions the block tests: the fields of the selector word (30_encoding.md R70, R71), and which
interrupt source is pending and enabled (60_exceptions.md R140, R150). The block has no condition codes (10_state.md
R47). -/

namespace Sys2Proof.Machine

/-- ZB: the bits-remaining counter reaches zero when decremented (30_encoding.md R70). -/
def flagZB (s : State) : Bool := dec s.cfg.cntW s.bits == 0

/-- ZR: the repeat counter reaches zero when decremented (30_encoding.md R70). -/
def flagZR (s : State) : Bool := dec s.cfg.rptW s.repeats == 0

/-- FS: `LOWERING AND FAILSAFE_EN` (30_encoding.md R70). -/
def flagFS (s : State) : Bool := s.lowering && s.cfg.failsafeEn

/-- `OSW(src)`, formed from the state before the operation runs (30_encoding.md R71). -/
def osw (src : Src) (s : State) : Osw :=
  packOsw (lowBit s) (flagFS s) (flagZR s) (flagZB s) s.phase src.code

/-- `T`: line T is enabled and pending (60_exceptions.md R150). -/
def timerRequest (s : State) : Bool := s.tie && s.tif

/-- `C`: line C is enabled and pending (60_exceptions.md R150). -/
def comparatorRequest (s : State) : Bool := s.cie && s.cif

/-- An interrupt is pending, enabled and deliverable (60_exceptions.md R150, R155). -/
def interruptWaiting (s : State) : Bool := s.gie && (timerRequest s || comparatorRequest s)

/-- The fault set is empty. -/
def FaultSet.isEmpty (f : FaultSet) : Bool := !(f.reservedPhase || f.bothArmed || f.reservedExec)

/-- The set with one more reason (10_state.md R37). -/
def FaultSet.insert (f : FaultSet) : FaultReason → FaultSet
  | .reservedPhase => { f with reservedPhase := true }
  | .bothArmed => { f with bothArmed := true }
  | .reservedExec => { f with reservedExec := true }

end Sys2Proof.Machine
end

