-- ==== Sys2Proof/Machine/Ops.lean ====
section
/-! DEFINITION. The writes of the state elements ("writes `v` into `X`, truncated to the width of `X`", 00_scope.md
R12), raising a model fault, and entering and leaving an operation (60_exceptions.md R151, R153).

Entry saves no state and return restores none, so all that entry does to the state is to clear the accepted source's
pending flag, and a return is no operation (R151, R153). -/

namespace Sys2Proof.Machine

/-- `CMD <- v`. -/
def writeCmd (v : Nat) (s : State) : State := { s with cmd := trunc s.cfg.cmdW v }
/-- `PHASE <- p`. -/
def writePhase (p : Phase) (s : State) : State := { s with phase := p }
/-- `BITS <- v`. -/
def writeBits (v : Nat) (s : State) : State := { s with bits := trunc s.cfg.cntW v }
/-- `REPEAT <- v`. -/
def writeRepeats (v : Nat) (s : State) : State := { s with repeats := trunc s.cfg.rptW v }
/-- `LOWERING <- v`. -/
def writeLowering (v : Bool) (s : State) : State := { s with lowering := v }
/-- `TCNT <- v`. -/
def writeTcnt (v : Nat) (s : State) : State := { s with tcnt := trunc s.cfg.tw v }
/-- `OCR <- v`. -/
def writeOcr (v : Nat) (s : State) : State := { s with ocr := trunc s.cfg.tw v }
/-- `TOGGLE <- v`. -/
def writeToggle (v : Bool) (s : State) : State := { s with toggle := v }
/-- `TIF <- v`. -/
def writeTif (v : Bool) (s : State) : State := { s with tif := v }
/-- `TIE <- v`. -/
def writeTie (v : Bool) (s : State) : State := { s with tie := v }
/-- `CIF <- v`. -/
def writeCif (v : Bool) (s : State) : State := { s with cif := v }
/-- `CIE <- v`. -/
def writeCie (v : Bool) (s : State) : State := { s with cie := v }
/-- `GIE <- v`. -/
def writeGie (v : Bool) (s : State) : State := { s with gie := v }
/-- `KEY <- v`. -/
def writeKey (v : Bool) (s : State) : State := { s with key := v }
/-- `EXEC <- e`. -/
def writeExec (e : ExecState) (s : State) : State := { s with execSt := e }
/-- `PRE_CTX <- c`. -/
def writePreCtx (c : PreCtx) (s : State) : State := { s with preCtx := c }
/-- `PRE_STEP <- i`. -/
def writePreStep (i : BitVec 2) (s : State) : State := { s with preStep := i }
/-- `PRE_CNT <- v`. -/
def writePreCnt (v : Nat) (s : State) : State := { s with preCnt := trunc s.cfg.pw v }
/-- `POWER <- v`. -/
def writePower (v : Bool) (s : State) : State := { s with power := v }
/-- The model's own count of held ticks (log entry 3). -/
def writeHeld (n : Nat) (s : State) : State := { s with held := n }
/-- The model's own script of the environment (log entry 2). -/
def writeScript (env : List Env) (s : State) : State := { s with script := env }

/-- `raise Fault(reason)`: records `reason` in the sticky fault set (00_scope.md R13, 10_state.md R37). It ends the
tick, and no step follows (log entries 4 and 5). -/
def raiseFault (reason : FaultReason) (s : State) : State := { s with fault := s.fault.insert reason }

/-- The state part of `Enter(src)`: the accepted source's pending flag is cleared and nothing is saved
(60_exceptions.md R151, log entry 12). Leaving reset accepts no interrupt, so BOOT clears no flag (log entry 9). -/
def clearPending : Src → State → State
  | .timer, s => writeTif false s
  | .comparator, s => writeCif false s
  | .reset, s => s

end Sys2Proof.Machine
end

