-- ==== Sys2Proof/Machine/Timer.lean ====
section
/-! DEFINITION. The timer/compare unit and the comparator event latch: TimerTick (60_exceptions.md R141, R142), CmpLatch
(R146) and the re-arm sequence ArmTimer (42_power_loss.md R131). -/

namespace Sys2Proof.Machine

/-- A compare match: "periodic reset-on-match", the auto-toggle of `KEY`, and the pending flag, set whatever `TIE` is
(60_exceptions.md R141, R142). -/
def compareMatch (s : State) : State :=
  let s := writeTcnt 0 s
  let s := if s.toggle then writeKey (!s.key) s else s
  writeTif true s

/-- `TimerTick()`: increment, then compare (60_exceptions.md R141). -/
def timerTick (s : State) : State :=
  let t := inc s.cfg.tw s.tcnt
  if t == s.ocr then compareMatch s else writeTcnt t s

/-- `CmpLatch(fall)`: latched whatever `CIE` is (60_exceptions.md R146). -/
def cmpLatch (fall : Bool) (s : State) : State := if fall then writeCif true s else s

/-- `ArmTimer()`, in the source's order: the stale flag is cleared before the enable is set (42_power_loss.md R131,
70_reset_and_hazards.md R190). -/
def armTimer (s : State) : State :=
  let s := writeTcnt 0 s
  let s := writeOcr s.cfg.initDelay s
  let s := writeToggle true s
  let s := writeTif false s
  writeTie true s

end Sys2Proof.Machine
end

