-- ==== Sys2Proof/Machine/Preamble.lean ====
section
/-! DEFINITION. The Preamble Emitter (40_preamble.md): PreambleStart (R91), PreambleTick (R92), PreambleDone (R93). -/

namespace Sys2Proof.Machine

/-- `PreambleStart(ctx)` (40_preamble.md R91). -/
def preambleStart (ctx : PreCtx) (s : State) : State :=
  let s := writeExec .preamble s
  let s := writePreCtx ctx s
  let s := writePreStep 0 s
  let s := writePreCnt s.cfg.preT0 s
  writeKey true s

/-- `PreambleDone(ctx)`: the continuation chosen by the context that started the preamble (40_preamble.md R93). -/
def preambleDone (ctx : PreCtx) (s : State) : State :=
  match ctx with
  | .boot => writeGie true (armTimer s)
  | .pl => armTimer s

/-- The start of the hold after the current one (40_preamble.md R92). -/
def preambleNextHold (s : State) : State :=
  let s := writePreStep (s.preStep + 1) s
  let s := writePreCnt (preTime s.cfg s.preStep) s
  writeKey (preLevel s.preStep) s

/-- The end of the last hold: "leaves the output pin low on return" (40_preamble.md R92). -/
def preambleFinish (s : State) : State :=
  let s := writeKey false s
  let s := writeExec .run s
  preambleDone s.preCtx s

/-- `PreambleTick()` (40_preamble.md R92). -/
def preambleTick (s : State) : State :=
  let s := writePreCnt (dec s.cfg.pw s.preCnt) s
  if s.preCnt == 0 then
    if s.preStep.toNat < 3 then preambleNextHold s else preambleFinish s
  else s

end Sys2Proof.Machine
end

