-- ==== Sys2Proof/Machine/Boot.lean ====
section
/-! DEFINITION. The meaning of the startup operation (70_reset_and_hazards.md R184). -/

namespace Sys2Proof.Machine

/-- `BOOT`, in the first step out of reset (70_reset_and_hazards.md R184). The rest of the operation, `ArmTimer()` and
`GIE <- 1`, runs in the tick the preamble ends (`preambleDone .boot`, 40_preamble.md R93). -/
def execBoot (s : State) : Host.Outcome State Fault Refusal := .next (preambleStart .boot s)

end Sys2Proof.Machine
end

