-- ==== Sys2Proof/Machine/Encoder.lean ====
section
/-! DEFINITION. The meanings of the Bit/Frame Encoder's operations (41_encoder.md R102 to R108).

Each runs on the state after the entry has cleared the pending flag (R101) and always completes: no operation of the
block can fail (60_exceptions.md R165). The statements stand in the order the spec writes them (00_scope.md R12). -/

namespace Sys2Proof.Machine

/-- `ON` (41_encoder.md R102). -/
def execOn (s : State) : Host.Outcome State Fault Refusal :=
  let s := writeOcr (dOn s.cfg (lowBit s)) s
  .next (writePhase .off s)

/-- `OFF.NEXT` (41_encoder.md R103): the duration is chosen by `CMD[0]` before the shift. -/
def execOffNext (s : State) : Host.Outcome State Fault Refusal :=
  let s := writeBits (dec s.cfg.cntW s.bits) s
  let s := writeOcr (dOff s.cfg (lowBit s)) s
  let s := writeCmd (shiftRight1 s.cmd) s
  .next (writePhase .on s)

/-- `OFF.END` (41_encoder.md R104): disabling the toggle mode forces the pin low (10_state.md R28). -/
def execOffEnd (s : State) : Host.Outcome State Fault Refusal :=
  let s := writeBits (dec s.cfg.cntW s.bits) s
  let s := writeCmd (selCmd s) s
  let s := writeBits s.cfg.delayLen s
  let s := writeToggle false s
  let s := writeKey false s
  let s := writeOcr s.cfg.tIdle s
  .next (writePhase .delay s)

/-- `DELAY.WAIT` (41_encoder.md R105): `OCR` keeps `T_IDLE`. -/
def execDelayWait (s : State) : Host.Outcome State Fault Refusal :=
  .next (writeBits (dec s.cfg.cntW s.bits) s)

/-- `DELAY.NEXT` (41_encoder.md R106): enabling the toggle mode leaves `KEY` as it is. -/
def execDelayNext (s : State) : Host.Outcome State Fault Refusal :=
  let s := writeBits (dec s.cfg.cntW s.bits) s
  let s := writeRepeats (dec s.cfg.rptW s.repeats) s
  let s := writeBits s.cfg.frameLen s
  let s := writePhase .on s
  .next (writeToggle true s)

/-- `DELAY.HALT` (41_encoder.md R107). -/
def execDelayHalt (s : State) : Host.Outcome State Fault Refusal :=
  let s := writeBits (dec s.cfg.cntW s.bits) s
  let s := writeRepeats (dec s.cfg.rptW s.repeats) s
  let s := writeBits s.cfg.frameLen s
  let s := writePhase .on s
  .next (writeTie false s)

/-- `DELAY.FAILSAFE` (41_encoder.md R108): arms the Power-Loss Monitor; `CIF` is not cleared. -/
def execDelayFailsafe (s : State) : Host.Outcome State Fault Refusal :=
  let s := writeBits (dec s.cfg.cntW s.bits) s
  let s := writeRepeats (dec s.cfg.rptW s.repeats) s
  let s := writeBits s.cfg.frameLen s
  let s := writePhase .on s
  let s := writeLowering false s
  let s := writeCmd s.cfg.cmdUp s
  let s := writeRepeats s.cfg.repeatFailsafe s
  let s := writeTie false s
  .next (writeCie true s)

end Sys2Proof.Machine
end

