-- ==== Sys2Proof/Machine/PowerLoss.lean ====
section
/-! DEFINITION. The meaning of the Power-Loss Monitor's operation (42_power_loss.md R130). -/

namespace Sys2Proof.Machine

/-- `PL.FIRE`, in the accept tick (42_power_loss.md R130): self-disarm first, then the preamble. The rest of the
operation, `ArmTimer()`, runs in the tick the preamble ends (`preambleDone .pl`, 40_preamble.md R93). -/
def execPlFire (s : State) : Host.Outcome State Fault Refusal :=
  let s := writeCie false s
  .next (preambleStart .pl s)

end Sys2Proof.Machine
end

