-- ==== Sys2Proof/Machine/Dispatch.lean ====
section
/-! DEFINITION. The dispatch of an operation to its meaning, one arm per constructor of `Instr`. -/

namespace Sys2Proof.Machine

def exec (i : Instr) (s : State) : Host.Outcome State Fault Refusal :=
  match i with
  | .on _ _ _ _ => Sys2Proof.Machine.execOn s
  | .offNext _ _ _ => Sys2Proof.Machine.execOffNext s
  | .offEnd _ _ _ => Sys2Proof.Machine.execOffEnd s
  | .delayWait _ _ _ => Sys2Proof.Machine.execDelayWait s
  | .delayNext _ _ => Sys2Proof.Machine.execDelayNext s
  | .delayHalt _ => Sys2Proof.Machine.execDelayHalt s
  | .delayFailsafe _ => Sys2Proof.Machine.execDelayFailsafe s
  | .plFire _ _ _ _ _ => Sys2Proof.Machine.execPlFire s
  | .boot _ _ _ _ _ => Sys2Proof.Machine.execBoot s

end Sys2Proof.Machine
end

