-- ==== Sys2Proof/Machine/Interrupts.lean ====
section
/-! DEFINITION. Acceptance and entry of an interrupt (60_exceptions.md R150, R151), the latency bound on the accept draw
(R155), and one tick of the block (R160). -/

namespace Sys2Proof.Machine

/-- `Enter(src)`: clears the pending flag, forms the selector word, and runs the operation it selects to completion
(60_exceptions.md R151). A timer entry that finds the reserved phase raises `RESERVED_PHASE` (41_encoder.md R109); a
word that is invalid is refused (30_encoding.md R73). -/
def enter (src : Src) (s : State) : Host.Outcome State Fault Refusal :=
  let s := clearPending src s
  match decode (osw src s) with
  | .ok i => exec i s
  | .error .reservedPhase => .next (raiseFault .reservedPhase s)
  | .error .invalidSource => .refused (.invalidSelector (osw src s))

/-- `Accept()` (60_exceptions.md R150). -/
def accept (s : State) : Host.Outcome State Fault Refusal :=
  if !s.gie then .next s
  else if timerRequest s && comparatorRequest s then .next (raiseFault .bothArmed s)
  else if timerRequest s then enter .timer s
  else if comparatorRequest s then enter .comparator s
  else .next s

/-- The accept draw under its bound: the environment may hold a pending enabled interrupt for at most `LAT_MAX`
consecutive ticks (60_exceptions.md R155), so at the bound the draw is true (log entry 3). -/
def acceptDraw (env : Env) (s : State) : Bool := env.accept || decide (s.cfg.latMax ≤ s.held)

/-- The sequencer sub-step of a tick with `EXEC` = RUN (60_exceptions.md R160), with the model's count of held ticks
(log entry 3). -/
def runTick (env : Env) (s : State) : Host.Outcome State Fault Refusal :=
  if acceptDraw env s then accept (writeHeld 0 s)
  else .next (writeHeld (if interruptWaiting s then s.held + 1 else 0) s)

/-- The two sub-steps of every tick that come before the sequencer's: the timer, then the comparator latch
(60_exceptions.md R160). -/
def frontEnd (env : Env) (s : State) : State := cmpLatch env.fall (timerTick s)

/-- `Step(env)` (60_exceptions.md R160). `EXEC` is read once; the timer and the latch do not write it. -/
def tick (env : Env) (s : State) : Host.Outcome State Fault Refusal :=
  if !s.fault.isEmpty then .fault .faulted
  else if !s.power then .fault .poweredOff
  else if env.powerOff then .next (writePower false s)
  else
    match s.execSt with
    | .reserved => .next (raiseFault .reservedExec s)
    | .reset => enter .reset (frontEnd env s)
    | .preamble => .next (preambleTick (frontEnd env s))
    | .run => runTick env (frontEnd env s)

/-- The environment's choice for the coming tick: the script's first entry; past its end the tick is quiet
(30_encoding.md R76). -/
def nextEnv (s : State) : Env :=
  match s.script with
  | [] => .quiet
  | e :: _ => e

/-- The script of the ticks after the coming one. -/
def consumeEnv (s : State) : State := writeScript s.script.tail s

end Sys2Proof.Machine
end

