-- ==== Sys2Proof/Machine/Loader.lean ====
section
/-! DEFINITION. Placing an operation so that the very next step selects and runs it (log entry 8). The block fetches
nothing: an operation is selected by the state and the event source (30_encoding.md R70), so the state is given the
values whose selector word is the wanted one, under the program of `Config.scenario`. -/

namespace Sys2Proof.Machine

/-- The state elements the selector word's upper six bits are formed from (30_encoding.md R71): `CMD` with `CMD[0]` =
`b`, `LOWERING` = `f`, counters whose decremented values are zero or not as `r` and `z` say, `PHASE` = `ph`. -/
def placeFields (b f r z : Bool) (ph : Phase) (s : State) : State :=
  { s with
    cfg := Config.scenario, script := [], held := 0, fault := .empty, power := true
    cmd := if b then 1 else 0, lowering := f, repeats := if r then 1 else 2, bits := if z then 1 else 2, phase := ph }

/-- The execution state and the one enabled pending source that make the next step enter with `src`. -/
def placeSource (src : Src) (s : State) : State :=
  match src with
  | .timer => { s with execSt := .run, gie := true, tie := true, tif := true, cie := false }
  | .comparator => { s with execSt := .run, gie := true, tie := false, cie := true, cif := true }
  | .reset => { s with execSt := .reset }

/-- `s` with the selector word `w` as what the next step forms. A word with `SRC` = 11 is formed by no state
(30_encoding.md R73) and places nothing. -/
def placeOsw (w : Osw) (s : State) : State :=
  let t := placeFields (oswB w) (oswF w) (oswR w) (oswZ w) (oswPh w) s
  match (w.extractLsb' 0 2).toNat with
  | 0 => placeSource .timer t
  | 1 => placeSource .comparator t
  | 2 => placeSource .reset t
  | _ => s

end Sys2Proof.Machine
end

