-- ==== Sys2Proof/Machine/Step.lean ====
section
/-! DEFINITION. One step of the machine: one timer tick (00_scope.md R10, 60_exceptions.md R160). -/

namespace Sys2Proof.Machine

/-- One tick. An ill-formed configuration is refused and nothing runs (00_scope.md R7, log entry 6). -/
def step (s : State) : Host.Outcome State Fault Refusal :=
  if s.cfg.wf then tick (nextEnv s) (consumeEnv s) else .refused .illFormedConfig

/-- `s` with the operation of the selector word `w` placed as what the next step runs (log entry 8). A selector word is
8 bits (30_encoding.md R75). -/
def State.withFetchWord (s : State) (nbits w : Nat) : State := placeOsw (BitVec.ofNat 8 (w % 2 ^ nbits)) s

end Sys2Proof.Machine
end

