-- ==== Sys2Proof/Safety.lean ====
section
/-! DEFINITION. What counts as a safe run, in the terms the claims use: the mode view (10_state.md R40, 60_exceptions.md
R162), the element widths, the invariant of the block's reachable states (10_state.md R41, R44; 42_power_loss.md R133),
the timing condition under which the output follows the phase (10_state.md R43, 70_reset_and_hazards.md R191), and the
output observation of a run (00_scope.md R10). -/

namespace Sys2Proof.Safety

open Sys2Proof.Machine

/-- The top-level modes (10_state.md R40, 60_exceptions.md R162). -/
inductive Mode where
  | reset | preamble | transmitting | awaitingPowerLoss | idle
deriving DecidableEq, Repr

/-- The state is in a mode (10_state.md R40). A state with both sources armed, which no run reaches, is in two. -/
def inMode (m : Mode) (s : State) : Bool :=
  match m with
  | .reset => s.execSt == .reset
  | .preamble => s.execSt == .preamble
  | .transmitting => s.execSt == .run && s.tie
  | .awaitingPowerLoss => s.execSt == .run && s.cie
  | .idle => s.execSt == .run && !s.tie && !s.cie

/-- The mode changes of the table of 60_exceptions.md R162, but for power collapse, which ends the run. -/
def modeEdge : Mode → Mode → Bool
  | .reset, .preamble => true
  | .preamble, .transmitting => true
  | .transmitting, .idle => true
  | .transmitting, .awaitingPowerLoss => true
  | .awaitingPowerLoss, .preamble => true
  | _, _ => false

/-- Every element of parametric width holds a value of its width (10_state.md R20). -/
abbrev Fits (s : State) : Prop :=
  s.cmd < 2 ^ s.cfg.cmdW ∧ s.bits < 2 ^ s.cfg.cntW ∧ s.repeats < 2 ^ s.cfg.rptW ∧
  s.tcnt < 2 ^ s.cfg.tw ∧ s.ocr < 2 ^ s.cfg.tw ∧ s.preCnt < 2 ^ s.cfg.pw

/-- The encoder state of a burst that has not begun: `PHASE` = ON and a full frame to send (10_state.md R44). -/
abbrev FreshFrame (s : State) : Prop := s.phase = .on ∧ s.bits = s.cfg.frameLen

/-- The encoder state of the down burst before its first frame (70_reset_and_hazards.md R180). -/
abbrev DownLoaded (s : State) : Prop :=
  s.lowering = true ∧ s.cmd = s.cfg.cmdDown ∧ s.repeats = s.cfg.repeatPrimary

/-- The encoder state that DELAY.FAILSAFE leaves for the up burst (41_encoder.md R108, 42_power_loss.md R133). -/
abbrev UpLoaded (s : State) : Prop :=
  s.lowering = false ∧ s.cmd = s.cfg.cmdUp ∧ s.repeats = s.cfg.repeatFailsafe ∧ s.cfg.failsafeEn = true

/-- In mode Reset (70_reset_and_hazards.md R180, R182). -/
abbrev ResetOk (s : State) : Prop :=
  s.execSt = .reset →
    FreshFrame s ∧ DownLoaded s ∧ s.tie = false ∧ s.cie = false ∧ s.gie = false ∧
    s.toggle = false ∧ s.key = false ∧ s.tcnt = 0 ∧ s.ocr = 0

/-- In mode Preamble: nothing is armed, no match can move the pin, and the pin has the level of the current hold, of
which at least one tick is left (40_preamble.md R92, R95; 42_power_loss.md R130). -/
abbrev PreambleOk (s : State) : Prop :=
  s.execSt = .preamble →
    FreshFrame s ∧ s.tie = false ∧ s.cie = false ∧ s.toggle = false ∧ s.key = preLevel s.preStep ∧
    1 ≤ s.preCnt ∧ s.preCnt ≤ preTime s.cfg s.preStep ∧
    (s.preCtx = .boot → DownLoaded s ∧ s.gie = false) ∧ (s.preCtx = .pl → UpLoaded s ∧ s.gie = true)

/-- In mode Transmitting: the counters are inside the frame or the delay they count, and toggling is on exactly outside
DELAY, where the pin is low and the command is already reloaded (41_encoder.md R104, R106; 70_reset_and_hazards.md
R194). -/
abbrev TransmittingOk (s : State) : Prop :=
  s.execSt = .run → s.tie = true →
    1 ≤ s.bits ∧ 1 ≤ s.repeats ∧
    (s.phase ≠ .delay → s.bits ≤ s.cfg.frameLen ∧ s.toggle = true) ∧
    (s.phase = .delay → s.bits ≤ s.cfg.delayLen ∧ s.toggle = false ∧ s.key = false ∧ s.cmd = selCmd s)

/-- In mode AwaitingPowerLoss or Idle: the pin is low and stays so (42_power_loss.md R133, 60_exceptions.md R171). -/
abbrev DisarmedOk (s : State) : Prop :=
  s.execSt = .run → s.tie = false → FreshFrame s ∧ s.toggle = false ∧ s.key = false

/-- The model's count of held ticks: inside the latency bound (60_exceptions.md R155), and 0 while no interrupt waits
(log entry 3). -/
abbrev HeldOk (s : State) : Prop := s.held ≤ s.cfg.latMax ∧ (interruptWaiting s = false → s.held = 0)

/-- The invariant of the block: a well-formed configuration, no fault and no reserved value (10_state.md R44), never both
sources armed (R41), the monitor armed only with the up burst loaded (42_power_loss.md R133), the latency bound
(60_exceptions.md R155, log entry 3), and the shape of each mode. -/
abbrev Inv (s : State) : Prop :=
  s.cfg.wf = true ∧ s.fault = .empty ∧ s.phase ≠ .reserved ∧ s.execSt ≠ .reserved ∧
  ¬ (s.tie = true ∧ s.cie = true) ∧
  (s.cie = true → UpLoaded s ∧ s.execSt = .run) ∧
  (s.execSt = .run → s.gie = true) ∧
  HeldOk s ∧ Fits s ∧
  ResetOk s ∧ PreambleOk s ∧ TransmittingOk s ∧ DisarmedOk s

/-- `LAT_MAX` is smaller than every interval the operations program (70_reset_and_hazards.md R191). -/
abbrev LatencyBelowIntervals (c : Config) : Prop :=
  c.latMax < c.tOnLong ∧ c.latMax < c.tOnShort ∧ c.latMax < c.tOffLong ∧ c.latMax < c.tOffShort ∧
  c.latMax < c.tIdle ∧ c.latMax < c.initDelay

/-- The output follows the phase (10_state.md R43): with no match waiting, `KEY` = 1 exactly in phase OFF; while a match
waits for its operation, `KEY` is already at the level of the interval that the match began, and the counter has counted
the held ticks (`held` is the model's, log entry 3). -/
abbrev Synced (s : State) : Prop :=
  s.execSt = .run → s.tie = true →
    s.cfg.latMax < s.ocr ∧ s.tcnt < s.ocr ∧
    (s.tif = false → (s.key = true ↔ s.phase = .off)) ∧
    (s.tif = true → (s.key = true ↔ s.phase = .on) ∧ s.tcnt + 1 = s.held)

/-- The halted state of 60_exceptions.md R171, with power: mode Idle and no fault. -/
abbrev Halted (s : State) : Prop := inMode .idle s = true ∧ s.fault = .empty

/-- The elements S0 to S4 are the same in two states (10_state.md R20, R42). -/
abbrev SameEncoder (s t : State) : Prop :=
  t.cmd = s.cmd ∧ t.phase = s.phase ∧ t.bits = s.bits ∧ t.repeats = s.repeats ∧ t.lowering = s.lowering

/-- The environment of the script never cuts the power (60_exceptions.md R161). -/
abbrev PowerHolds (s : State) : Prop := ∀ e ∈ s.script, e.powerOff = false

/-- The level of `KEY` `k` ticks after the tick of PreambleStart (40_preamble.md R94). -/
def preambleLevel (c : Config) (k : Nat) : Bool :=
  decide (k < c.preT0) || (decide (c.preT0 + c.preT1 ≤ k) && decide (k < c.preT0 + c.preT1 + c.preT2))

/-- `ΣPRE` (70_reset_and_hazards.md R186). -/
def preTotal (c : Config) : Nat := c.preT0 + c.preT1 + c.preT2 + c.preT3

/-- The ticks until the next compare match (60_exceptions.md R141). -/
def ticksToMatch (s : State) : Nat :=
  if s.tcnt < s.ocr then s.ocr - s.tcnt else 2 ^ s.cfg.tw - s.tcnt + s.ocr

/-- The output observation of `n` ticks: `KEY` at the end of each, up to the tick before power collapses (00_scope.md
R10, 60_exceptions.md R161). -/
def observe : Nat → State → List Bool
  | 0, _ => []
  | n + 1, s =>
    match step s with
    | .next t => if t.power then t.key :: observe n t else []
    | .fault _ => []
    | .refused _ => []

/-- The block takes its sub-steps in the coming tick: the configuration is well-formed, no fault is recorded, and power
holds now and in that tick (60_exceptions.md R160). -/
abbrev Ready (s : State) : Prop :=
  s.cfg.wf = true ∧ s.fault = .empty ∧ s.power = true ∧ (nextEnv s).powerOff = false

/-- The state the sequencer's sub-step of the coming tick starts from (60_exceptions.md R160). -/
abbrev atSequencer (s : State) : State := frontEnd (nextEnv s) (consumeEnv s)

/-- The coming step accepts a timer-compare interrupt (60_exceptions.md R150, R151; the draw is log entry 3). -/
abbrev AcceptsTimer (s : State) : Prop :=
  Ready s ∧ s.execSt = .run ∧ acceptDraw (nextEnv s) (atSequencer s) = true ∧ s.gie = true ∧
  timerRequest (atSequencer s) = true ∧ comparatorRequest (atSequencer s) = false

/-- The coming step accepts a comparator interrupt (60_exceptions.md R150, R151; the draw is log entry 3). -/
abbrev AcceptsComparator (s : State) : Prop :=
  Ready s ∧ s.execSt = .run ∧ acceptDraw (nextEnv s) (atSequencer s) = true ∧ s.gie = true ∧
  timerRequest (atSequencer s) = false ∧ comparatorRequest (atSequencer s) = true

/-- The coming step finds both interrupts enabled and pending at its accept step (60_exceptions.md R150, R152). -/
abbrev AcceptsBoth (s : State) : Prop :=
  Ready s ∧ s.execSt = .run ∧ acceptDraw (nextEnv s) (atSequencer s) = true ∧ s.gie = true ∧
  timerRequest (atSequencer s) = true ∧ comparatorRequest (atSequencer s) = true

/-- The operation an accept step in state `u` runs, if it accepts one: the one the selector word decodes to
(60_exceptions.md R150, R151). -/
def acceptedOp (env : Env) (u : State) : Option Instr :=
  if acceptDraw env u && u.gie then
    match timerRequest u, comparatorRequest u with
    | true, false => (decode (osw .timer u)).toOption
    | false, true => (decode (osw .comparator u)).toOption
    | _, _ => none
  else none

/-- The operation the coming step runs, if it runs one: the one the selector word decodes to, out of reset or at an
accepted interrupt (30_encoding.md R70, 60_exceptions.md R160). -/
def stepOp (s : State) : Option Instr :=
  let u := atSequencer s
  if s.cfg.wf && s.fault.isEmpty && s.power && !(nextEnv s).powerOff then
    match s.execSt with
    | .reset => (decode (osw .reset u)).toOption
    | .run => acceptedOp (nextEnv s) u
    | .preamble => none
    | .reserved => none
  else none

/-- The coming step runs one of the named operations. -/
abbrev Runs (s : State) (names : List String) : Prop := ∃ i, stepOp s = some i ∧ i.mnemonic ∈ names

/-- The step from `s` to `t` ends a preamble (40_preamble.md R92, R93). -/
abbrev EndsPreamble (s t : State) : Prop := s.execSt = .preamble ∧ t.execSt = .run

/-- The tick of a rising edge inside a burst, after its ON has run (41_encoder.md R110): the pin is high, the counter
has just matched, and the on-time of the current bit is programmed. -/
abbrev AtBitStart (s : State) : Prop :=
  s.execSt = .run ∧ s.gie = true ∧ s.tie = true ∧ s.tif = false ∧ s.cie = false ∧ s.toggle = true ∧
  s.phase = .off ∧ s.key = true ∧ s.tcnt = 0 ∧ s.ocr = dOn s.cfg (s.cmd.testBit 0)

/-- The ticks of the next `n` bits of the command word, on-time and off-time (41_encoder.md R114). -/
def bitsTicks (c : Config) : Nat → Nat → Nat
  | _, 0 => 0
  | cmd, n + 1 => dOn c (cmd.testBit 0) + dOff c (cmd.testBit 0) + bitsTicks c (cmd / 2) n

/-- The script with every falling edge taken out. -/
def withoutEdges (env : List Env) : List Env := env.map fun e => { e with fall := false }

/-- Two configurations that differ at most in the command bits from `FRAME_LEN` up (00_scope.md R8). -/
abbrev SameSentBits (c d : Config) : Prop :=
  d = { c with cmdDown := d.cmdDown, cmdUp := d.cmdUp } ∧
  c.cmdDown % 2 ^ c.frameLen = d.cmdDown % 2 ^ c.frameLen ∧ c.cmdUp % 2 ^ c.frameLen = d.cmdUp % 2 ^ c.frameLen

end Sys2Proof.Safety
end

