-- ==== Sys2Proof/Certificates/Slice0/Obligations.lean ====
section
/-! DEFINITION. The statements for the provers: what the operations and the block do, as the rules of spec/ say it.

A docstring names the rule a statement formalises; where the rule is the spec's own decision (marked D<n> in
92_eei_decisions.md) or the statement rests on a choice of this model (a log entry), the docstring says so. -/

open Sys2Proof Sys2Proof.Machine Sys2Proof.Safety

/-! ### The selector word -/

/-- The decoder reads every instruction back from its encoding, with every field (30_encoding.md R72; the spec's own
decision D16). -/
def Obligations.DecodeOfEncodeIsTheInstruction : Prop :=
  ∀ i : Instr, decode (encode i) = .ok i

/-- A word that decodes is the encoding of what it decodes to: each selector word has one meaning (30_encoding.md R72;
the spec's own decision D16). -/
def Obligations.EncodeOfDecodeIsTheWord : Prop :=
  ∀ (w : Osw) (i : Instr), decode w = .ok i → encode i = w

/-- The two reserved regions are rejected by their names, and every other value selects an operation (30_encoding.md
R73; the spec's own decisions D16, D21). -/
def Obligations.ReservedWordsAreTheOnlyOnesRejected : Prop :=
  ∀ w : Osw,
    (decode w = .error .reservedPhase ↔ w &&& 0x0F = 0x0C) ∧
    (decode w = .error .invalidSource ↔ w &&& 0x03 = 0x03) ∧
    (w &&& 0x0F ≠ 0x0C → w &&& 0x03 ≠ 0x03 → ∃ i, decode w = .ok i)

/-- Each row of the opcode map selects its operation for exactly the words its mask and match give (30_encoding.md R72;
the spec's own decision D16). -/
def Obligations.EachRowSelectsItsOperation : Prop :=
  ∀ w : Osw,
    ((∃ b f r z, decode w = .ok (.on b f r z)) ↔ w &&& 0x0F = 0x00) ∧
    ((∃ b f r, decode w = .ok (.offNext b f r)) ↔ w &&& 0x1F = 0x04) ∧
    ((∃ b f r, decode w = .ok (.offEnd b f r)) ↔ w &&& 0x1F = 0x14) ∧
    ((∃ b f r, decode w = .ok (.delayWait b f r)) ↔ w &&& 0x1F = 0x08) ∧
    ((∃ b f, decode w = .ok (.delayNext b f)) ↔ w &&& 0x3F = 0x18) ∧
    ((∃ b, decode w = .ok (.delayHalt b)) ↔ w &&& 0x7F = 0x38) ∧
    ((∃ b, decode w = .ok (.delayFailsafe b)) ↔ w &&& 0x7F = 0x78) ∧
    ((∃ b f r z ph, decode w = .ok (.plFire b f r z ph)) ↔ w &&& 0x03 = 0x01) ∧
    ((∃ b f r z ph, decode w = .ok (.boot b f r z ph)) ↔ w &&& 0x03 = 0x02)

/-- Words of the spec's vectors decode to the operations it names (95_test_vectors.md sections 2 and 3). -/
def Obligations.VectorWordsDecode : Prop :=
  decode 0xA0 = .ok (.on true false true false) ∧ decode 0x24 = .ok (.offNext false false true) ∧
  decode 0xB4 = .ok (.offEnd true false true) ∧ decode 0x68 = .ok (.delayWait false true true) ∧
  decode 0xD8 = .ok (.delayNext true true) ∧ decode 0xB8 = .ok (.delayHalt true) ∧
  decode 0xF8 = .ok (.delayFailsafe true) ∧ decode 0x39 = .ok (.plFire false false true true .delay) ∧
  decode 0xA2 = .ok (.boot true false true false .on)

/-! ### The operations: result, frame and completion -/

/-- ON (41_encoder.md R102): a timer entry in phase ON selects it; it completes, programs the on-time of the current
bit, moves to phase OFF, and leaves every other element as it was. -/
def Obligations.OnProgramsTheOnTime : Prop :=
  ∀ (b f r z : Bool) (s : State), s.cfg.wf = true →
    encode (.on b f r z) &&& 0x0F = 0x00 ∧
    (s.phase = .on → ∃ b' f' r' z', decode (osw .timer s) = .ok (.on b' f' r' z')) ∧
    exec (.on b f r z) s =
      .next { s with ocr := if s.cmd.testBit 0 then s.cfg.tOnLong else s.cfg.tOnShort, phase := .off }

/-- OFF.NEXT (41_encoder.md R103): a timer entry in phase OFF selects it unless `BITS` = 1; it completes, counts the
bit (0 wraps to the largest value), programs the complementary off-time by the bit before the shift, shifts the command
word with a 0 at the top, moves to phase ON, and leaves every other element as it was. -/
def Obligations.OffNextProgramsTheOffTimeAndShifts : Prop :=
  ∀ (b f r : Bool) (s : State), s.cfg.wf = true → Fits s →
    encode (.offNext b f r) &&& 0x1F = 0x04 ∧
    (s.phase = .off → s.bits ≠ 1 → ∃ b' f' r', decode (osw .timer s) = .ok (.offNext b' f' r')) ∧
    exec (.offNext b f r) s =
      .next { s with
        bits := if s.bits = 0 then 2 ^ s.cfg.cntW - 1 else s.bits - 1
        ocr := if s.cmd.testBit 0 then s.cfg.tOffShort else s.cfg.tOffLong
        cmd := s.cmd / 2
        phase := .on }

/-- OFF.END (41_encoder.md R104): a timer entry in phase OFF with `BITS` = 1 selects it; it completes, reloads the
selected command, loads the delay length, disables the toggle mode with the pin forced low, programs the idle tick,
moves to phase DELAY, and leaves every other element as it was. -/
def Obligations.OffEndReloadsAndForcesThePinLow : Prop :=
  ∀ (b f r : Bool) (s : State), s.cfg.wf = true →
    encode (.offEnd b f r) &&& 0x1F = 0x14 ∧
    (s.phase = .off → s.bits = 1 → ∃ b' f' r', decode (osw .timer s) = .ok (.offEnd b' f' r')) ∧
    exec (.offEnd b f r) s =
      .next { s with
        cmd := if s.lowering then s.cfg.cmdDown else s.cfg.cmdUp
        bits := s.cfg.delayLen
        toggle := false
        key := false
        ocr := s.cfg.tIdle
        phase := .delay }

/-- DELAY.WAIT (41_encoder.md R105): a timer entry in phase DELAY selects it unless `BITS` = 1; it completes and counts
one idle tick; that `OCR` and everything else stay is the spec's own decision D12. -/
def Obligations.DelayWaitCountsOneIdleTick : Prop :=
  ∀ (b f r : Bool) (s : State), s.cfg.wf = true → Fits s →
    encode (.delayWait b f r) &&& 0x1F = 0x08 ∧
    (s.phase = .delay → s.bits ≠ 1 → ∃ b' f' r', decode (osw .timer s) = .ok (.delayWait b' f' r')) ∧
    exec (.delayWait b f r) s =
      .next { s with bits := if s.bits = 0 then 2 ^ s.cfg.cntW - 1 else s.bits - 1 }

/-- DELAY.NEXT (41_encoder.md R106): selected in phase DELAY with `BITS` = 1 unless `REPEAT` = 1; it completes, counts
the frame, loads a full frame, moves to phase ON and enables the toggle mode without moving the pin; that `OCR` stays
is the spec's own decision D12. -/
def Obligations.DelayNextStartsTheNextFrame : Prop :=
  ∀ (b f : Bool) (s : State), s.cfg.wf = true → Fits s →
    encode (.delayNext b f) &&& 0x3F = 0x18 ∧
    (s.phase = .delay → s.bits = 1 → s.repeats ≠ 1 →
      ∃ b' f', decode (osw .timer s) = .ok (.delayNext b' f')) ∧
    exec (.delayNext b f) s =
      .next { s with
        repeats := if s.repeats = 0 then 2 ^ s.cfg.rptW - 1 else s.repeats - 1
        bits := s.cfg.frameLen
        phase := .on
        toggle := true }

/-- DELAY.HALT (41_encoder.md R107; for the up burst the spec's own decision D13): selected in phase DELAY at the end
of a burst with no failsafe to arm; it completes, counts the frame, loads a full frame, moves to phase ON and disables
the timer interrupt. -/
def Obligations.DelayHaltDisarmsTheTimer : Prop :=
  ∀ (b : Bool) (s : State), s.cfg.wf = true → Fits s →
    encode (.delayHalt b) &&& 0x7F = 0x38 ∧
    (s.phase = .delay → s.bits = 1 → s.repeats = 1 → ¬ (s.lowering = true ∧ s.cfg.failsafeEn = true) →
      ∃ b', decode (osw .timer s) = .ok (.delayHalt b')) ∧
    exec (.delayHalt b) s =
      .next { s with
        repeats := if s.repeats = 0 then 2 ^ s.cfg.rptW - 1 else s.repeats - 1
        bits := s.cfg.frameLen
        phase := .on
        tie := false }

/-- DELAY.FAILSAFE (41_encoder.md R108): selected in phase DELAY at the end of the down burst with a failsafe path; it
completes, loads the up burst, disables the timer interrupt and arms the
monitor; that `CIF` stays is the spec's own decision D8. -/
def Obligations.DelayFailsafeArmsTheMonitor : Prop :=
  ∀ (b : Bool) (s : State), s.cfg.wf = true →
    encode (.delayFailsafe b) &&& 0x7F = 0x78 ∧
    (s.phase = .delay → s.bits = 1 → s.repeats = 1 → s.lowering = true → s.cfg.failsafeEn = true →
      ∃ b', decode (osw .timer s) = .ok (.delayFailsafe b')) ∧
    exec (.delayFailsafe b) s =
      .next { s with
        bits := s.cfg.frameLen
        phase := .on
        lowering := false
        cmd := s.cfg.cmdUp
        repeats := s.cfg.repeatFailsafe
        tie := false
        cie := true }

/-- PL.FIRE, in its accept tick (42_power_loss.md R130; the preamble as a sub-sequencer is the spec's own decision D20):
it completes, disarms the monitor and starts the preamble; no encoder element is written. -/
def Obligations.PlFireDisarmsAndStartsThePreamble : Prop :=
  ∀ (b f r z : Bool) (ph : Phase) (s : State), s.cfg.wf = true →
    encode (.plFire b f r z ph) &&& 0x03 = 0x01 ∧
    (∃ b' f' r' z' ph', decode (osw .comparator s) = .ok (.plFire b' f' r' z' ph')) ∧
    exec (.plFire b f r z ph) s =
      .next { s with
        cie := false, execSt := .preamble, preCtx := .pl, preStep := 0, preCnt := s.cfg.preT0, key := true }

/-- BOOT, in its tick (70_reset_and_hazards.md R184; the startup order is the spec's own decision D18): it completes and
starts the preamble; it writes none of S0 to S4. -/
def Obligations.BootStartsThePreamble : Prop :=
  ∀ (b f r z : Bool) (ph : Phase) (s : State), s.cfg.wf = true →
    encode (.boot b f r z ph) &&& 0x03 = 0x02 ∧
    (∃ b' f' r' z' ph', decode (osw .reset s) = .ok (.boot b' f' r' z' ph')) ∧
    exec (.boot b f r z ph) s =
      .next { s with execSt := .preamble, preCtx := .boot, preStep := 0, preCnt := s.cfg.preT0, key := true }

/-! ### The step -/

/-- A step runs the decoded operation. Out of reset, at an accepted timer interrupt, or at an accepted comparator
interrupt, the step is `exec` of what the selector word decodes to, on the state after the timer, the latch and the clear
of the accepted flag (60_exceptions.md R151, R160; the spec's own decisions D9, D10; `held` is the model's, log entry
3). -/
def Obligations.StepRunsTheDecodedOperation : Prop :=
  ∀ (s : State) (i : Instr), Ready s →
    (s.execSt = .reset → decode (osw .reset (atSequencer s)) = .ok i → step s = exec i (atSequencer s)) ∧
    (s.execSt = .run → acceptDraw (nextEnv s) (atSequencer s) = true → (atSequencer s).gie = true →
      timerRequest (atSequencer s) = true → comparatorRequest (atSequencer s) = false →
      decode (osw .timer (atSequencer s)) = .ok i →
      step s = exec i { atSequencer s with held := 0, tif := false }) ∧
    (s.execSt = .run → acceptDraw (nextEnv s) (atSequencer s) = true → (atSequencer s).gie = true →
      timerRequest (atSequencer s) = false → comparatorRequest (atSequencer s) = true →
      decode (osw .comparator (atSequencer s)) = .ok i →
      step s = exec i { atSequencer s with held := 0, cif := false })

/-- The operation a step runs is one the build can form: no operation with FS = 1 runs without a failsafe path
(30_encoding.md R70; the spec's own decision D16). -/
def Obligations.OnlyFormableOperationsRun : Prop :=
  ∀ (s : State) (i : Instr), stepOp s = some i → i.wf s.cfg = true

/-- An ill-formed configuration is refused and nothing runs (00_scope.md R7; the spec's own decision D15). -/
def Obligations.IllFormedConfigurationIsRefused : Prop :=
  ∀ s : State, s.cfg.wf = false → step s = .refused .illFormedConfig

/-- A faulted or unpowered block takes no step (60_exceptions.md R160, R161; the spec's own decisions D21, D22; that the
model answers a stop is log entry 5). -/
def Obligations.QuiescentBlockTakesNoStep : Prop :=
  ∀ s : State, s.cfg.wf = true →
    (s.fault ≠ .empty → step s = .fault .faulted) ∧
    (s.fault = .empty → s.power = false → step s = .fault .poweredOff)

/-- A power collapse clears `POWER` and runs no sub-step (60_exceptions.md R161; the spec's own decision D22). -/
def Obligations.PowerCollapseStopsTheTick : Prop :=
  ∀ s : State, s.cfg.wf = true → s.fault = .empty → s.power = true → (nextEnv s).powerOff = true →
    step s = .next { s with power := false, script := s.script.tail }

/-- The three model faults are recorded in `FAULT` and end the tick (60_exceptions.md R166, 41_encoder.md R109; the
spec's own decision D21; that a raise ends the tick is log entry 4). -/
def Obligations.ModelFaultsAreRecorded : Prop :=
  ∀ s : State, Ready s →
    (s.execSt = .reserved →
      step s = .next { s with script := s.script.tail, fault := ⟨false, false, true⟩ }) ∧
    (s.execSt = .run → acceptDraw (nextEnv s) (atSequencer s) = true → s.gie = true →
      timerRequest (atSequencer s) = true → comparatorRequest (atSequencer s) = true →
      step s = .next { atSequencer s with held := 0, fault := ⟨false, true, false⟩ }) ∧
    (s.execSt = .run → acceptDraw (nextEnv s) (atSequencer s) = true → s.gie = true →
      timerRequest (atSequencer s) = true → comparatorRequest (atSequencer s) = false → s.phase = .reserved →
      step s = .next { atSequencer s with held := 0, tif := false, fault := ⟨true, false, false⟩ })

/-- With no enabled source pending, or interrupts not delivered, a RUN tick is the timer's and the latch's alone
(60_exceptions.md R150; the spec's own decision D9; `held` is the model's, log entry 3). -/
def Obligations.NothingIsAcceptedUnlessPendingAndEnabled : Prop :=
  ∀ s : State, Ready s → s.execSt = .run → interruptWaiting (atSequencer s) = false →
    step s = .next { atSequencer s with held := 0 }

/-- The latency bound (60_exceptions.md R155; the spec's own decision D9; the model's count `held` and the clipped draw
are log entry 3): below the bound the environment may hold a waiting interrupt, at the bound it is accepted whatever the
script says. -/
def Obligations.WaitingInterruptIsHeldAtMostLatMaxTicks : Prop :=
  ∀ s : State, Ready s → s.execSt = .run → interruptWaiting (atSequencer s) = true →
    ((nextEnv s).accept = false → s.held < s.cfg.latMax →
      step s = .next { atSequencer s with held := s.held + 1 }) ∧
    (s.cfg.latMax ≤ s.held → step s = accept { atSequencer s with held := 0 })

/-! ### The timer and the preamble -/

/-- The interval to the next compare match (60_exceptions.md R141; the spec's own decisions D6, D8): with `OCR` above the
count it is the difference, else the counter wraps first; before it the timer only counts, and the match resets the
count, inverts `KEY` in toggle mode and sets `TIF`. -/
def Obligations.NextMatchComesAfterTheInterval : Prop :=
  ∀ s : State, s.tcnt < 2 ^ s.cfg.tw → s.ocr < 2 ^ s.cfg.tw →
    (∀ k, k < ticksToMatch s → timerTick^[k] s = { s with tcnt := (s.tcnt + k) % 2 ^ s.cfg.tw }) ∧
    timerTick^[ticksToMatch s] s =
      { s with tcnt := 0, key := if s.toggle then !s.key else s.key, tif := true }

/-- A preamble tick counts the hold down; the last tick of a hold but the last starts the next hold with its level
(40_preamble.md R92; the spec's own decision D20). -/
def Obligations.PreambleTickCountsAndMovesOn : Prop :=
  ∀ s : State, s.cfg.wf = true → s.preCnt < 2 ^ s.cfg.pw →
    (2 ≤ s.preCnt → preambleTick s = { s with preCnt := s.preCnt - 1 }) ∧
    (s.preCnt = 1 → s.preStep = 0 →
      preambleTick s = { s with preStep := 1, preCnt := s.cfg.preT1, key := false }) ∧
    (s.preCnt = 1 → s.preStep = 1 →
      preambleTick s = { s with preStep := 2, preCnt := s.cfg.preT2, key := true }) ∧
    (s.preCnt = 1 → s.preStep = 2 →
      preambleTick s = { s with preStep := 3, preCnt := s.cfg.preT3, key := false })

/-- The end of the preamble (40_preamble.md R92, R93; 42_power_loss.md R131; the spec's own decisions D18, D19, D20): the
pin is low, the timer is re-armed with its stale flag cleared, and only the boot preamble enables interrupt delivery. -/
def Obligations.PreambleEndArmsTheTimer : Prop :=
  ∀ s : State, s.cfg.wf = true → s.preCnt = 1 → s.preStep = 3 →
    preambleTick s =
      { s with
        preCnt := 0, key := false, execSt := .run, tcnt := 0, ocr := s.cfg.initDelay, toggle := true, tif := false
        tie := true, gie := if s.preCtx = .boot then true else s.gie }

/-- The output of one preamble (40_preamble.md R94, R95, R96; the spec's own decision D20): from the tick of
PreambleStart the pin follows the four holds, nothing is accepted and no encoder element changes, and after `ΣPRE` ticks
the timer is armed with the pin low. -/
def Obligations.PreambleEmitsItsFourHolds : Prop :=
  ∀ s : State, s.cfg.wf = true → s.fault = .empty → s.power = true → PowerHolds s →
    s.execSt = .preamble → s.preStep = 0 → s.preCnt = s.cfg.preT0 → s.key = true → s.toggle = false →
    ∀ k, k ≤ preTotal s.cfg →
      ∃ t, Sys2Proof.core.run k s = .next t ∧ t.key = preambleLevel s.cfg k ∧ SameEncoder s t ∧ t.cie = s.cie ∧
        (k < preTotal s.cfg → t.execSt = .preamble ∧ t.tie = s.tie ∧ t.toggle = false) ∧
        (k = preTotal s.cfg →
          t.execSt = .run ∧ t.tie = true ∧ t.tif = false ∧ t.toggle = true ∧ t.tcnt = 0 ∧
          t.ocr = s.cfg.initDelay ∧ (t.gie = true ↔ s.preCtx = .boot ∨ s.gie = true))

/-! ### Reset -/

/-- The reset state (70_reset_and_hazards.md R180; the spec's own decisions D4, D5, D10, D18, D21, D22, D26 for the
values the source does not give; the configuration, the script and `held` of `State.reset` are log entries 1, 2 and 3).
-/
def Obligations.ResetPutsEveryElement : Prop :=
  State.reset = State.resetWith Config.build [] ∧
  ∀ (c : Config) (env : List Env),
    State.resetWith c env =
      { cfg := c, script := env, held := 0
        cmd := c.cmdDown, phase := .on, bits := c.frameLen, repeats := c.repeatPrimary, lowering := true
        tcnt := 0, ocr := 0, toggle := false, tif := false, tie := false, cif := false, cie := false, gie := false
        key := false, execSt := .reset, preCtx := .boot, preStep := 0, preCnt := 0
        fault := ⟨false, false, false⟩, power := true }

/-- The first step of a run executes BOOT (70_reset_and_hazards.md R183, R184; the spec's own decision D18): the timer
has counted to 1 without a match, an edge of that tick is latched, and the long high hold has begun. -/
def Obligations.FirstStepRunsBoot : Prop :=
  ∀ (c : Config) (env : List Env), c.wf = true → (nextEnv (State.resetWith c env)).powerOff = false →
    step (State.resetWith c env) =
      .next { State.resetWith c env.tail with
        tcnt := 1, cif := (nextEnv (State.resetWith c env)).fall
        execSt := .preamble, preCtx := .boot, preStep := 0, preCnt := c.preT0, key := true }

/-- The reset state meets the invariant, in every build and environment, and so does `State.reset` (10_state.md R44). -/
def Obligations.ResetMeetsTheInvariant : Prop :=
  Inv State.reset ∧
  ∀ (c : Config) (env : List Env), c.wf = true → Inv (State.resetWith c env) ∧ Synced (State.resetWith c env)

/-! ### Invariants -/

/-- Every step keeps the invariant: at most one source armed (10_state.md R41), no reserved value and no fault (R44), the
shape of each mode (42_power_loss.md R133, 70_reset_and_hazards.md R193, R194, 60_exceptions.md R171), the latency bound
(R155, with the model's count of held ticks, log entry 3). -/
def Obligations.EveryStepKeepsTheInvariant : Prop :=
  ∀ s t : State, Inv s → step s = .next t → Inv t

/-- A powered block that meets the invariant always steps: nothing faults, nothing is refused (60_exceptions.md R165,
10_state.md R44). -/
def Obligations.PoweredBlockAlwaysSteps : Prop :=
  ∀ s : State, Inv s → s.power = true → ∃ t, step s = .next t ∧ t.fault = .empty

/-- The output follows the phase when the latency is below every programmed interval (10_state.md R43,
70_reset_and_hazards.md R191): with no match waiting, `KEY` = 1 exactly in phase OFF; while one waits, the counter has
counted the held ticks (`held`, in `Synced` and in `Inv`, is the model's, log entry 3). -/
def Obligations.OutputFollowsThePhase : Prop :=
  ∀ s t : State, LatencyBelowIntervals s.cfg → Inv s → Synced s → step s = .next t → Synced t

/-- Every element keeps its width, from every state, reachable or not (10_state.md R20, 00_scope.md R12). -/
def Obligations.EveryStepKeepsTheWidths : Prop :=
  ∀ s t : State, Fits s → step s = .next t → Fits t

/-- The configuration cannot change during a run (20_memory.md R59; the spec's own decision D23), and a step consumes one
entry of the environment's script (log entry 2). -/
def Obligations.ConfigurationNeverChanges : Prop :=
  ∀ s t : State, step s = .next t → t.cfg = s.cfg ∧ t.script = s.script.tail

/-! ### Whole-machine rules -/

/-- The writer lists of the state elements S0 to S19 (10_state.md R20): an element changes only in a step in which one of
its writers acts: an operation, the timer, the latch, the end of a preamble, the clear of the accepted flag (the draw is
log entry 3), a raise, or the power collapse. -/
def Obligations.OnlyTheListedWritersChangeAnElement : Prop :=
  ∀ s t : State, step s = .next t →
    (t.cmd ≠ s.cmd → Runs s ["OFF.NEXT", "OFF.END", "DELAY.FAILSAFE"]) ∧
    (t.phase ≠ s.phase → Runs s ["ON", "OFF.NEXT", "OFF.END", "DELAY.NEXT", "DELAY.HALT", "DELAY.FAILSAFE"]) ∧
    (t.bits ≠ s.bits →
      Runs s ["OFF.NEXT", "OFF.END", "DELAY.WAIT", "DELAY.NEXT", "DELAY.HALT", "DELAY.FAILSAFE"]) ∧
    (t.repeats ≠ s.repeats → Runs s ["DELAY.NEXT", "DELAY.HALT", "DELAY.FAILSAFE"]) ∧
    (t.lowering ≠ s.lowering → Runs s ["DELAY.FAILSAFE"]) ∧
    (t.ocr ≠ s.ocr → Runs s ["ON", "OFF.NEXT", "OFF.END"] ∨ EndsPreamble s t) ∧
    (t.toggle ≠ s.toggle → Runs s ["OFF.END", "DELAY.NEXT"] ∨ EndsPreamble s t) ∧
    (t.tie ≠ s.tie → Runs s ["DELAY.HALT", "DELAY.FAILSAFE"] ∨ EndsPreamble s t) ∧
    (t.cie ≠ s.cie → Runs s ["DELAY.FAILSAFE", "PL.FIRE"]) ∧
    (t.gie ≠ s.gie → EndsPreamble s t ∧ s.preCtx = .boot) ∧
    (t.key ≠ s.key →
      Runs s ["OFF.END", "BOOT", "PL.FIRE"] ∨ s.execSt = .preamble ∨
      (s.toggle = true ∧ inc s.cfg.tw s.tcnt = s.ocr)) ∧
    (t.execSt ≠ s.execSt → Runs s ["BOOT", "PL.FIRE"] ∨ EndsPreamble s t) ∧
    (t.preCtx ≠ s.preCtx → Runs s ["BOOT", "PL.FIRE"]) ∧
    (t.preStep ≠ s.preStep ∨ t.preCnt ≠ s.preCnt → Runs s ["BOOT", "PL.FIRE"] ∨ s.execSt = .preamble) ∧
    (t.tcnt ≠ s.tcnt → t.tcnt = (timerTick s).tcnt ∨ EndsPreamble s t) ∧
    (t.tif ≠ s.tif →
      (t.tif = true ∧ inc s.cfg.tw s.tcnt = s.ocr) ∨ (t.tif = false ∧ (AcceptsTimer s ∨ EndsPreamble s t))) ∧
    (t.cif ≠ s.cif → (t.cif = true ∧ (nextEnv s).fall = true) ∨ (t.cif = false ∧ Runs s ["PL.FIRE"])) ∧
    (t.fault ≠ s.fault →
      (s.execSt = .reserved ∧ t.fault = s.fault.insert .reservedExec) ∨
      (AcceptsBoth s ∧ t.fault = s.fault.insert .bothArmed) ∨
      (AcceptsTimer s ∧ s.phase = .reserved ∧ t.fault = s.fault.insert .reservedPhase)) ∧
    (t.power ≠ s.power → (nextEnv s).powerOff = true)

/-- The pending flags after a step (10_state.md R29, R31; the spec's own decisions D8, D9; the draw is log entry 3). In a
tick of power collapse or of the reserved `EXEC` they stay. In every other tick, whatever is enabled, `TIF` is 1 exactly
if it was or a match came, and neither a timer interrupt was accepted nor a preamble ended in it; `CIF` is 1 exactly if
it was or an edge came, and PL.FIRE did not run in it. -/
def Obligations.PendingFlagsStayUntilAccepted : Prop :=
  ∀ s t : State, step s = .next t →
    ((nextEnv s).powerOff = true ∨ s.execSt = .reserved → t.tif = s.tif ∧ t.cif = s.cif) ∧
    ((nextEnv s).powerOff = false → s.execSt ≠ .reserved →
      (t.tif = true ↔ (s.tif = true ∨ inc s.cfg.tw s.tcnt = s.ocr) ∧ ¬ AcceptsTimer s ∧ ¬ EndsPreamble s t) ∧
      (t.cif = true ↔ (s.cif = true ∨ (nextEnv s).fall = true) ∧ ¬ Runs s ["PL.FIRE"]))

/-- Single writer (10_state.md R42): S0 to S4 change only in a step that runs a timer-compare operation, with the
encoder's own interrupt armed and delivered. -/
def Obligations.OnlyTheArmedHandlerWritesTheEncoder : Prop :=
  ∀ s t : State, step s = .next t → ¬ SameEncoder s t →
    s.execSt = .run ∧ s.gie = true ∧ s.tie = true ∧
    Runs s ["ON", "OFF.NEXT", "OFF.END", "DELAY.WAIT", "DELAY.NEXT", "DELAY.HALT", "DELAY.FAILSAFE"]

/-- The comparator enable (60_exceptions.md R147): it arms line C, only DELAY.FAILSAFE sets it, only PL.FIRE clears it,
and while it is 0 a falling edge changes only `CIF`. -/
def Obligations.ComparatorEnableHasTwoWriters : Prop :=
  (∀ s : State, comparatorRequest s = true ↔ s.cie = true ∧ s.cif = true) ∧
  (∀ s t : State, step s = .next t →
    (s.cie = false → t.cie = true → Runs s ["DELAY.FAILSAFE"]) ∧
    (s.cie = true → t.cie = false → Runs s ["PL.FIRE"])) ∧
  (∀ (s t : State) (e : Env) (rest : List Env), s.cie = false → s.execSt ≠ .reserved → e.powerOff = false →
    step { s with script := { e with fall := false } :: rest } = .next t →
    step { s with script := { e with fall := true } :: rest } = .next { t with cif := true })

/-- The lowering flag (10_state.md R25): only reset sets it and only DELAY.FAILSAFE, at the end of the down burst,
clears it, to switch the loaded command to "up"; without the failsafe path it is never cleared; the Command Selector
reads it. -/
def Obligations.LoweringIsClearedOnlyByTheFailsafe : Prop :=
  (∀ (c : Config) (env : List Env), (State.resetWith c env).lowering = true) ∧
  (∀ s : State, selCmd s = if s.lowering then s.cfg.cmdDown else s.cfg.cmdUp) ∧
  (∀ s t : State, step s = .next t →
    (s.lowering = false → t.lowering = false) ∧
    (s.lowering = true → t.lowering = false →
      Runs s ["DELAY.FAILSAFE"] ∧ s.cfg.failsafeEn = true ∧ t.cmd = trunc s.cfg.cmdW s.cfg.cmdUp) ∧
    (s.cfg.failsafeEn = false → t.lowering = s.lowering))

/-- The block is in exactly one mode (10_state.md R40; the spec's own decision D10). -/
def Obligations.ExactlyOneModeHolds : Prop :=
  ∀ s : State, Inv s → ∃ m, inMode m s = true ∧ ∀ m', inMode m' s = true → m' = m

/-- The mode transitions (60_exceptions.md R162; the modes are the spec's own decision D10): a step changes the mode only
along the table, by the operation the table names. -/
def Obligations.ModesChangeOnlyAlongTheTable : Prop :=
  ∀ (s t : State) (m m' : Mode), Inv s → step s = .next t → inMode m s = true → inMode m' t = true → m ≠ m' →
    modeEdge m m' = true ∧
    (m = .reset → Runs s ["BOOT"]) ∧
    (m = .preamble → EndsPreamble s t) ∧
    (m = .transmitting ∧ m' = .idle → Runs s ["DELAY.HALT"]) ∧
    (m = .transmitting ∧ m' = .awaitingPowerLoss → Runs s ["DELAY.FAILSAFE"]) ∧
    (m = .awaitingPowerLoss → Runs s ["PL.FIRE"])

/-- Idle is for ever (60_exceptions.md R171; the spec's own decision D32): after any number of ticks the block is still
idle, the pin is low, and S0 to S4, `TOGGLE`, `TIE` and `CIE` are as they were. -/
def Obligations.HaltedBlockStaysHalted : Prop :=
  ∀ (n : Nat) (s t : State), Inv s → Halted s → Sys2Proof.core.run n s = .next t →
    Halted t ∧ t.key = false ∧ SameEncoder s t ∧ t.toggle = s.toggle ∧ t.tie = false ∧ t.cie = false

/-- At most one firing per boot (42_power_loss.md R132): once the up command is selected and the monitor is disarmed, it
is never armed again, a latched edge stays latched, and no step runs PL.FIRE. -/
def Obligations.MonitorFiresAtMostOnce : Prop :=
  ∀ (n : Nat) (s t : State), s.lowering = false → s.cie = false → Sys2Proof.core.run n s = .next t →
    t.lowering = false ∧ t.cie = false ∧ (s.cif = true → t.cif = true) ∧ ¬ Runs t ["PL.FIRE"]

/-- The firing of the armed monitor (42_power_loss.md R130, R133; 70_reset_and_hazards.md R192; the spec's own decisions
D8, D9, D20): in mode AwaitingPowerLoss an edge, new or latched before, starts the preamble in the tick it is accepted,
with the up burst loaded and the encoder untouched. -/
def Obligations.ArmedMonitorFiresOnAnEdge : Prop :=
  ∀ s : State, Inv s → Ready s → inMode .awaitingPowerLoss s = true →
    acceptDraw (nextEnv s) s = true → (s.cif = true ∨ (nextEnv s).fall = true) →
    ∃ t, step s = .next t ∧ SameEncoder s t ∧ FreshFrame t ∧ UpLoaded t ∧
      t.cif = false ∧ t.cie = false ∧ t.tie = false ∧ t.toggle = false ∧
      t.execSt = .preamble ∧ t.preCtx = .pl ∧ t.preStep = 0 ∧ t.preCnt = t.cfg.preT0 ∧ t.key = true

/-! ### The waveform -/

/-- One bit on the pin, but the last of a frame (41_encoder.md R110), with zero latency: high for the on-time of the bit,
low for its off-time, then the next bit's rising edge. -/
def Obligations.BitEmitsItsTwoSegments : Prop :=
  ∀ s : State, s.cfg.wf = true → s.fault = .empty → s.power = true → PowerHolds s → s.cfg.latMax = 0 →
    AtBitStart s → Fits s → 2 ≤ s.bits →
    (∀ k, k < dOn s.cfg (s.cmd.testBit 0) → ∃ t, Sys2Proof.core.run k s = .next t ∧ t.key = true) ∧
    (∀ k, k < dOff s.cfg (s.cmd.testBit 0) →
      ∃ t, Sys2Proof.core.run (dOn s.cfg (s.cmd.testBit 0) + k) s = .next t ∧ t.key = false) ∧
    ∃ t, Sys2Proof.core.run (dOn s.cfg (s.cmd.testBit 0) + dOff s.cfg (s.cmd.testBit 0)) s = .next t ∧
      AtBitStart t ∧ t.bits = s.bits - 1 ∧ t.cmd = s.cmd / 2 ∧ t.repeats = s.repeats ∧ t.lowering = s.lowering

/-- The frame period (41_encoder.md R114, with the gap of R112), with zero latency: from the rising edge at which `n + 1`
bits are left to the first rising edge of the next frame of the burst, where the whole frame is loaded again. -/
def Obligations.FramePeriodIsTheSumOfItsIntervals : Prop :=
  ∀ (n : Nat) (s : State), s.cfg.wf = true → s.fault = .empty → s.power = true → PowerHolds s → s.cfg.latMax = 0 →
    AtBitStart s → Fits s → s.bits = n + 1 → 2 ≤ s.repeats →
    ∃ t, Sys2Proof.core.run
        (bitsTicks s.cfg s.cmd n + dOn s.cfg (s.cmd.testBit n) + (s.cfg.delayLen + 1) * s.cfg.tIdle) s = .next t ∧
      AtBitStart t ∧ t.bits = s.cfg.frameLen ∧ t.cmd = selCmd s ∧ t.repeats = s.repeats - 1 ∧
      t.lowering = s.lowering

/-- Bits from `FRAME_LEN` up are never transmitted (00_scope.md R8): two builds that differ only there have the same
output in every environment. -/
def Obligations.UnsentCommandBitsNeverShow : Prop :=
  ∀ (n : Nat) (c d : Config) (env : List Env), c.wf = true → d.wf = true → SameSentBits c d →
    observe n (State.resetWith c env) = observe n (State.resetWith d env)

/-- Without the failsafe path no falling edge reaches the output (60_exceptions.md R147): the edges of the script, and a
latched one, may be taken out. -/
def Obligations.EdgesNeverShowWithoutTheFailsafe : Prop :=
  ∀ (n : Nat) (s : State) (x : Bool), s.cfg.failsafeEn = false → s.cie = false →
    observe n { s with cif := x, script := withoutEdges s.script } = observe n s

/-- No rule reads `CLOCK_DIV` (00_scope.md R6, R10; the spec's own decision D2): the output does not depend on it. -/
def Obligations.ClockDividerNeverShows : Prop :=
  ∀ (n v : Nat) (s : State), observe n { s with cfg := { s.cfg with clockDiv := v } } = observe n s
end

