-- ==== Sys2Proof/Laws/Arith.lean ====
section
/-! SUPPORT. The width arithmetic of Machine/Operands.lean, the fault set, and the ranges a well-formed configuration gives. -/

namespace Sys2Proof

/-- Every range of 00_scope.md R6, as inequalities. -/
theorem Config.wf_ranges {c : Config} (h : c.wf = true) :
    (1 ≤ c.cmdW ∧ 1 ≤ c.cntW ∧ 1 ≤ c.rptW ∧ 2 ≤ c.tw ∧ 1 ≤ c.pw) ∧
    (1 ≤ c.frameLen ∧ c.frameLen ≤ c.cmdW ∧ c.frameLen < 2 ^ c.cntW) ∧
    (c.cmdDown < 2 ^ c.cmdW ∧ c.cmdUp < 2 ^ c.cmdW) ∧
    ((1 ≤ c.tOnLong ∧ c.tOnLong < 2 ^ c.tw) ∧ (1 ≤ c.tOnShort ∧ c.tOnShort < 2 ^ c.tw) ∧
      (1 ≤ c.tOffShort ∧ c.tOffShort < 2 ^ c.tw) ∧ (1 ≤ c.tOffLong ∧ c.tOffLong < 2 ^ c.tw) ∧
      (1 ≤ c.tIdle ∧ c.tIdle < 2 ^ c.tw) ∧ (1 ≤ c.initDelay ∧ c.initDelay < 2 ^ c.tw)) ∧
    ((1 ≤ c.delayLen ∧ c.delayLen < 2 ^ c.cntW) ∧ (1 ≤ c.repeatPrimary ∧ c.repeatPrimary < 2 ^ c.rptW) ∧
      (1 ≤ c.repeatFailsafe ∧ c.repeatFailsafe < 2 ^ c.rptW)) ∧
    ((1 ≤ c.preT0 ∧ c.preT0 < 2 ^ c.pw) ∧ (1 ≤ c.preT1 ∧ c.preT1 < 2 ^ c.pw) ∧
      (1 ≤ c.preT2 ∧ c.preT2 < 2 ^ c.pw) ∧ (1 ≤ c.preT3 ∧ c.preT3 < 2 ^ c.pw)) := by
  have p1 := Nat.two_pow_pos c.cntW
  have p2 := Nat.two_pow_pos c.rptW
  have p3 := Nat.two_pow_pos c.tw
  have p4 := Nat.two_pow_pos c.pw
  simp only [Config.wf, Config.widthsOk, Config.frameLenOk, Config.commandsOk, Config.durationsOk, Config.countsOk,
    Config.preambleOk, inRange, Bool.and_eq_true, decide_eq_true_eq] at h
  omega

/-- The free configuration of the build is well-formed: each OPEN field is brought into its range. -/
theorem Config.build_wf : Config.build.wf = true := by
  simp only [Config.wf, Config.widthsOk, Config.frameLenOk, Config.commandsOk, Config.durationsOk, Config.countsOk,
    Config.preambleOk, inRange, Bool.and_eq_true, decide_eq_true_eq]
  simp only [Config.build, Config.openUpTo]
  omega

namespace Machine

@[simp] theorem trunc_zero (W : Nat) : trunc W 0 = 0 := Nat.zero_mod _

theorem trunc_of_lt {W v : Nat} (h : v < 2 ^ W) : trunc W v = v := Nat.mod_eq_of_lt h

theorem trunc_lt (W v : Nat) : trunc W v < 2 ^ W := Nat.mod_lt _ (Nat.two_pow_pos W)

theorem inc_lt (W v : Nat) : inc W v < 2 ^ W := Nat.mod_lt _ (Nat.two_pow_pos W)

theorem dec_lt (W v : Nat) : dec W v < 2 ^ W := Nat.mod_lt _ (Nat.two_pow_pos W)

@[simp] theorem trunc_inc (W v : Nat) : trunc W (inc W v) = inc W v := trunc_of_lt (inc_lt W v)

@[simp] theorem trunc_dec (W v : Nat) : trunc W (dec W v) = dec W v := trunc_of_lt (dec_lt W v)

/-- Below the largest value an increment adds one. -/
theorem inc_of_lt {W v : Nat} (h : v + 1 < 2 ^ W) : inc W v = v + 1 := Nat.mod_eq_of_lt h

/-- From a value of at least 1 a decrement does not wrap (41_encoder.md R100). -/
theorem dec_of_pos {W v : Nat} (h1 : 1 ≤ v) (h : v < 2 ^ W) : dec W v = v - 1 := by
  unfold dec
  rw [show v + 2 ^ W - 1 = (v - 1) + 2 ^ W by omega, Nat.add_mod_right]
  exact Nat.mod_eq_of_lt (by omega)

/-- A decrement of 0 wraps to the largest value (41_encoder.md R100). -/
theorem dec_zero (W : Nat) : dec W 0 = 2 ^ W - 1 := by
  have := Nat.two_pow_pos W
  unfold dec
  rw [Nat.zero_add]
  exact Nat.mod_eq_of_lt (by omega)

/-- `ZB` and `ZR` test the decremented value: among the values of the width only 1 gives zero (30_encoding.md R71). -/
theorem dec_eq_zero_iff {W v : Nat} (hW : 1 ≤ W) (h : v < 2 ^ W) : dec W v = 0 ↔ v = 1 := by
  have h2 : 2 ≤ 2 ^ W := Nat.le_self_pow (by omega) 2
  rcases Nat.eq_zero_or_pos v with rfl | hv
  · rw [dec_zero]; omega
  · rw [dec_of_pos hv h]; omega

theorem shiftRight1_lt {W v : Nat} (h : v < 2 ^ W) : shiftRight1 v < 2 ^ W :=
  Nat.lt_of_le_of_lt (Nat.div_le_self v 2) h

@[simp] theorem insert_ne_empty (f : FaultSet) (r : FaultReason) : (f.insert r = .empty) = False := by
  cases r <;> simp [FaultSet.insert, FaultSet.empty]

end Machine

end Sys2Proof
end

