-- ==== Sys2Proof/Laws/Decode.lean ====
section
/-! SUPPORT. What the decoder answers on a word assembled from its fields (30_encoding.md R70 to R73). -/

namespace Sys2Proof

/-- No two rows of the opcode map match one word (30_encoding.md R72): their patterns differ in a bit both masks fix. -/
theorem opTable_disjoint :
    opTable.Pairwise (fun p q => (p.pattern ^^^ q.pattern) &&& (p.mask &&& q.mask) ≠ 0) := by decide

@[simp] theorem Phase.ofCode_code (ph : Phase) : Phase.ofCode ph.code = ph := by cases ph <;> rfl

/-- A selector word with `SRC` = 00 (30_encoding.md R72, R73). -/
theorem decode_timer (b f r z : Bool) (ph : Phase) :
    decode (packOsw b f r z ph 0) =
      match ph with
      | .on => .ok (.on b f r z)
      | .off => if z then .ok (.offEnd b f r) else .ok (.offNext b f r)
      | .delay =>
        if z then (if r then (if f then .ok (.delayFailsafe b) else .ok (.delayHalt b)) else .ok (.delayNext b f))
        else .ok (.delayWait b f r)
      | .reserved => .error .reservedPhase := by
  cases ph <;> cases b <;> cases f <;> cases r <;> cases z <;> rfl

/-- A selector word with `SRC` = 01 (30_encoding.md R72). -/
theorem decode_comparator (b f r z : Bool) (ph : Phase) :
    decode (packOsw b f r z ph 1) = .ok (.plFire b f r z ph) := by
  cases ph <;> cases b <;> cases f <;> cases r <;> cases z <;> rfl

/-- A selector word with `SRC` = 10 (30_encoding.md R72). -/
theorem decode_reset (b f r z : Bool) (ph : Phase) :
    decode (packOsw b f r z ph 2) = .ok (.boot b f r z ph) := by
  cases ph <;> cases b <;> cases f <;> cases r <;> cases z <;> rfl

end Sys2Proof
end

