-- ==== Sys2Proof/Laws/State.lean ====
section
/-! SUPPORT. What each write of Machine/Ops.lean does to each field of the state: one lemma per field per update, true by
`rfl`, so that no proof unfolds a record update. -/

namespace Sys2Proof.Machine

variable (s : State)

@[simp] theorem writeCmd_cfg (v : Nat) : (writeCmd v s).cfg = s.cfg := rfl
@[simp] theorem writeCmd_script (v : Nat) : (writeCmd v s).script = s.script := rfl
@[simp] theorem writeCmd_held (v : Nat) : (writeCmd v s).held = s.held := rfl
@[simp] theorem writeCmd_cmd (v : Nat) : (writeCmd v s).cmd = trunc s.cfg.cmdW v := rfl
@[simp] theorem writeCmd_phase (v : Nat) : (writeCmd v s).phase = s.phase := rfl
@[simp] theorem writeCmd_bits (v : Nat) : (writeCmd v s).bits = s.bits := rfl
@[simp] theorem writeCmd_repeats (v : Nat) : (writeCmd v s).repeats = s.repeats := rfl
@[simp] theorem writeCmd_lowering (v : Nat) : (writeCmd v s).lowering = s.lowering := rfl
@[simp] theorem writeCmd_tcnt (v : Nat) : (writeCmd v s).tcnt = s.tcnt := rfl
@[simp] theorem writeCmd_ocr (v : Nat) : (writeCmd v s).ocr = s.ocr := rfl
@[simp] theorem writeCmd_toggle (v : Nat) : (writeCmd v s).toggle = s.toggle := rfl
@[simp] theorem writeCmd_tif (v : Nat) : (writeCmd v s).tif = s.tif := rfl
@[simp] theorem writeCmd_tie (v : Nat) : (writeCmd v s).tie = s.tie := rfl
@[simp] theorem writeCmd_cif (v : Nat) : (writeCmd v s).cif = s.cif := rfl
@[simp] theorem writeCmd_cie (v : Nat) : (writeCmd v s).cie = s.cie := rfl
@[simp] theorem writeCmd_gie (v : Nat) : (writeCmd v s).gie = s.gie := rfl
@[simp] theorem writeCmd_key (v : Nat) : (writeCmd v s).key = s.key := rfl
@[simp] theorem writeCmd_execSt (v : Nat) : (writeCmd v s).execSt = s.execSt := rfl
@[simp] theorem writeCmd_preCtx (v : Nat) : (writeCmd v s).preCtx = s.preCtx := rfl
@[simp] theorem writeCmd_preStep (v : Nat) : (writeCmd v s).preStep = s.preStep := rfl
@[simp] theorem writeCmd_preCnt (v : Nat) : (writeCmd v s).preCnt = s.preCnt := rfl
@[simp] theorem writeCmd_fault (v : Nat) : (writeCmd v s).fault = s.fault := rfl
@[simp] theorem writeCmd_power (v : Nat) : (writeCmd v s).power = s.power := rfl

@[simp] theorem writePhase_cfg (p : Phase) : (writePhase p s).cfg = s.cfg := rfl
@[simp] theorem writePhase_script (p : Phase) : (writePhase p s).script = s.script := rfl
@[simp] theorem writePhase_held (p : Phase) : (writePhase p s).held = s.held := rfl
@[simp] theorem writePhase_cmd (p : Phase) : (writePhase p s).cmd = s.cmd := rfl
@[simp] theorem writePhase_phase (p : Phase) : (writePhase p s).phase = p := rfl
@[simp] theorem writePhase_bits (p : Phase) : (writePhase p s).bits = s.bits := rfl
@[simp] theorem writePhase_repeats (p : Phase) : (writePhase p s).repeats = s.repeats := rfl
@[simp] theorem writePhase_lowering (p : Phase) : (writePhase p s).lowering = s.lowering := rfl
@[simp] theorem writePhase_tcnt (p : Phase) : (writePhase p s).tcnt = s.tcnt := rfl
@[simp] theorem writePhase_ocr (p : Phase) : (writePhase p s).ocr = s.ocr := rfl
@[simp] theorem writePhase_toggle (p : Phase) : (writePhase p s).toggle = s.toggle := rfl
@[simp] theorem writePhase_tif (p : Phase) : (writePhase p s).tif = s.tif := rfl
@[simp] theorem writePhase_tie (p : Phase) : (writePhase p s).tie = s.tie := rfl
@[simp] theorem writePhase_cif (p : Phase) : (writePhase p s).cif = s.cif := rfl
@[simp] theorem writePhase_cie (p : Phase) : (writePhase p s).cie = s.cie := rfl
@[simp] theorem writePhase_gie (p : Phase) : (writePhase p s).gie = s.gie := rfl
@[simp] theorem writePhase_key (p : Phase) : (writePhase p s).key = s.key := rfl
@[simp] theorem writePhase_execSt (p : Phase) : (writePhase p s).execSt = s.execSt := rfl
@[simp] theorem writePhase_preCtx (p : Phase) : (writePhase p s).preCtx = s.preCtx := rfl
@[simp] theorem writePhase_preStep (p : Phase) : (writePhase p s).preStep = s.preStep := rfl
@[simp] theorem writePhase_preCnt (p : Phase) : (writePhase p s).preCnt = s.preCnt := rfl
@[simp] theorem writePhase_fault (p : Phase) : (writePhase p s).fault = s.fault := rfl
@[simp] theorem writePhase_power (p : Phase) : (writePhase p s).power = s.power := rfl

@[simp] theorem writeBits_cfg (v : Nat) : (writeBits v s).cfg = s.cfg := rfl
@[simp] theorem writeBits_script (v : Nat) : (writeBits v s).script = s.script := rfl
@[simp] theorem writeBits_held (v : Nat) : (writeBits v s).held = s.held := rfl
@[simp] theorem writeBits_cmd (v : Nat) : (writeBits v s).cmd = s.cmd := rfl
@[simp] theorem writeBits_phase (v : Nat) : (writeBits v s).phase = s.phase := rfl
@[simp] theorem writeBits_bits (v : Nat) : (writeBits v s).bits = trunc s.cfg.cntW v := rfl
@[simp] theorem writeBits_repeats (v : Nat) : (writeBits v s).repeats = s.repeats := rfl
@[simp] theorem writeBits_lowering (v : Nat) : (writeBits v s).lowering = s.lowering := rfl
@[simp] theorem writeBits_tcnt (v : Nat) : (writeBits v s).tcnt = s.tcnt := rfl
@[simp] theorem writeBits_ocr (v : Nat) : (writeBits v s).ocr = s.ocr := rfl
@[simp] theorem writeBits_toggle (v : Nat) : (writeBits v s).toggle = s.toggle := rfl
@[simp] theorem writeBits_tif (v : Nat) : (writeBits v s).tif = s.tif := rfl
@[simp] theorem writeBits_tie (v : Nat) : (writeBits v s).tie = s.tie := rfl
@[simp] theorem writeBits_cif (v : Nat) : (writeBits v s).cif = s.cif := rfl
@[simp] theorem writeBits_cie (v : Nat) : (writeBits v s).cie = s.cie := rfl
@[simp] theorem writeBits_gie (v : Nat) : (writeBits v s).gie = s.gie := rfl
@[simp] theorem writeBits_key (v : Nat) : (writeBits v s).key = s.key := rfl
@[simp] theorem writeBits_execSt (v : Nat) : (writeBits v s).execSt = s.execSt := rfl
@[simp] theorem writeBits_preCtx (v : Nat) : (writeBits v s).preCtx = s.preCtx := rfl
@[simp] theorem writeBits_preStep (v : Nat) : (writeBits v s).preStep = s.preStep := rfl
@[simp] theorem writeBits_preCnt (v : Nat) : (writeBits v s).preCnt = s.preCnt := rfl
@[simp] theorem writeBits_fault (v : Nat) : (writeBits v s).fault = s.fault := rfl
@[simp] theorem writeBits_power (v : Nat) : (writeBits v s).power = s.power := rfl

@[simp] theorem writeRepeats_cfg (v : Nat) : (writeRepeats v s).cfg = s.cfg := rfl
@[simp] theorem writeRepeats_script (v : Nat) : (writeRepeats v s).script = s.script := rfl
@[simp] theorem writeRepeats_held (v : Nat) : (writeRepeats v s).held = s.held := rfl
@[simp] theorem writeRepeats_cmd (v : Nat) : (writeRepeats v s).cmd = s.cmd := rfl
@[simp] theorem writeRepeats_phase (v : Nat) : (writeRepeats v s).phase = s.phase := rfl
@[simp] theorem writeRepeats_bits (v : Nat) : (writeRepeats v s).bits = s.bits := rfl
@[simp] theorem writeRepeats_repeats (v : Nat) : (writeRepeats v s).repeats = trunc s.cfg.rptW v := rfl
@[simp] theorem writeRepeats_lowering (v : Nat) : (writeRepeats v s).lowering = s.lowering := rfl
@[simp] theorem writeRepeats_tcnt (v : Nat) : (writeRepeats v s).tcnt = s.tcnt := rfl
@[simp] theorem writeRepeats_ocr (v : Nat) : (writeRepeats v s).ocr = s.ocr := rfl
@[simp] theorem writeRepeats_toggle (v : Nat) : (writeRepeats v s).toggle = s.toggle := rfl
@[simp] theorem writeRepeats_tif (v : Nat) : (writeRepeats v s).tif = s.tif := rfl
@[simp] theorem writeRepeats_tie (v : Nat) : (writeRepeats v s).tie = s.tie := rfl
@[simp] theorem writeRepeats_cif (v : Nat) : (writeRepeats v s).cif = s.cif := rfl
@[simp] theorem writeRepeats_cie (v : Nat) : (writeRepeats v s).cie = s.cie := rfl
@[simp] theorem writeRepeats_gie (v : Nat) : (writeRepeats v s).gie = s.gie := rfl
@[simp] theorem writeRepeats_key (v : Nat) : (writeRepeats v s).key = s.key := rfl
@[simp] theorem writeRepeats_execSt (v : Nat) : (writeRepeats v s).execSt = s.execSt := rfl
@[simp] theorem writeRepeats_preCtx (v : Nat) : (writeRepeats v s).preCtx = s.preCtx := rfl
@[simp] theorem writeRepeats_preStep (v : Nat) : (writeRepeats v s).preStep = s.preStep := rfl
@[simp] theorem writeRepeats_preCnt (v : Nat) : (writeRepeats v s).preCnt = s.preCnt := rfl
@[simp] theorem writeRepeats_fault (v : Nat) : (writeRepeats v s).fault = s.fault := rfl
@[simp] theorem writeRepeats_power (v : Nat) : (writeRepeats v s).power = s.power := rfl

@[simp] theorem writeLowering_cfg (v : Bool) : (writeLowering v s).cfg = s.cfg := rfl
@[simp] theorem writeLowering_script (v : Bool) : (writeLowering v s).script = s.script := rfl
@[simp] theorem writeLowering_held (v : Bool) : (writeLowering v s).held = s.held := rfl
@[simp] theorem writeLowering_cmd (v : Bool) : (writeLowering v s).cmd = s.cmd := rfl
@[simp] theorem writeLowering_phase (v : Bool) : (writeLowering v s).phase = s.phase := rfl
@[simp] theorem writeLowering_bits (v : Bool) : (writeLowering v s).bits = s.bits := rfl
@[simp] theorem writeLowering_repeats (v : Bool) : (writeLowering v s).repeats = s.repeats := rfl
@[simp] theorem writeLowering_lowering (v : Bool) : (writeLowering v s).lowering = v := rfl
@[simp] theorem writeLowering_tcnt (v : Bool) : (writeLowering v s).tcnt = s.tcnt := rfl
@[simp] theorem writeLowering_ocr (v : Bool) : (writeLowering v s).ocr = s.ocr := rfl
@[simp] theorem writeLowering_toggle (v : Bool) : (writeLowering v s).toggle = s.toggle := rfl
@[simp] theorem writeLowering_tif (v : Bool) : (writeLowering v s).tif = s.tif := rfl
@[simp] theorem writeLowering_tie (v : Bool) : (writeLowering v s).tie = s.tie := rfl
@[simp] theorem writeLowering_cif (v : Bool) : (writeLowering v s).cif = s.cif := rfl
@[simp] theorem writeLowering_cie (v : Bool) : (writeLowering v s).cie = s.cie := rfl
@[simp] theorem writeLowering_gie (v : Bool) : (writeLowering v s).gie = s.gie := rfl
@[simp] theorem writeLowering_key (v : Bool) : (writeLowering v s).key = s.key := rfl
@[simp] theorem writeLowering_execSt (v : Bool) : (writeLowering v s).execSt = s.execSt := rfl
@[simp] theorem writeLowering_preCtx (v : Bool) : (writeLowering v s).preCtx = s.preCtx := rfl
@[simp] theorem writeLowering_preStep (v : Bool) : (writeLowering v s).preStep = s.preStep := rfl
@[simp] theorem writeLowering_preCnt (v : Bool) : (writeLowering v s).preCnt = s.preCnt := rfl
@[simp] theorem writeLowering_fault (v : Bool) : (writeLowering v s).fault = s.fault := rfl
@[simp] theorem writeLowering_power (v : Bool) : (writeLowering v s).power = s.power := rfl

@[simp] theorem writeTcnt_cfg (v : Nat) : (writeTcnt v s).cfg = s.cfg := rfl
@[simp] theorem writeTcnt_script (v : Nat) : (writeTcnt v s).script = s.script := rfl
@[simp] theorem writeTcnt_held (v : Nat) : (writeTcnt v s).held = s.held := rfl
@[simp] theorem writeTcnt_cmd (v : Nat) : (writeTcnt v s).cmd = s.cmd := rfl
@[simp] theorem writeTcnt_phase (v : Nat) : (writeTcnt v s).phase = s.phase := rfl
@[simp] theorem writeTcnt_bits (v : Nat) : (writeTcnt v s).bits = s.bits := rfl
@[simp] theorem writeTcnt_repeats (v : Nat) : (writeTcnt v s).repeats = s.repeats := rfl
@[simp] theorem writeTcnt_lowering (v : Nat) : (writeTcnt v s).lowering = s.lowering := rfl
@[simp] theorem writeTcnt_tcnt (v : Nat) : (writeTcnt v s).tcnt = trunc s.cfg.tw v := rfl
@[simp] theorem writeTcnt_ocr (v : Nat) : (writeTcnt v s).ocr = s.ocr := rfl
@[simp] theorem writeTcnt_toggle (v : Nat) : (writeTcnt v s).toggle = s.toggle := rfl
@[simp] theorem writeTcnt_tif (v : Nat) : (writeTcnt v s).tif = s.tif := rfl
@[simp] theorem writeTcnt_tie (v : Nat) : (writeTcnt v s).tie = s.tie := rfl
@[simp] theorem writeTcnt_cif (v : Nat) : (writeTcnt v s).cif = s.cif := rfl
@[simp] theorem writeTcnt_cie (v : Nat) : (writeTcnt v s).cie = s.cie := rfl
@[simp] theorem writeTcnt_gie (v : Nat) : (writeTcnt v s).gie = s.gie := rfl
@[simp] theorem writeTcnt_key (v : Nat) : (writeTcnt v s).key = s.key := rfl
@[simp] theorem writeTcnt_execSt (v : Nat) : (writeTcnt v s).execSt = s.execSt := rfl
@[simp] theorem writeTcnt_preCtx (v : Nat) : (writeTcnt v s).preCtx = s.preCtx := rfl
@[simp] theorem writeTcnt_preStep (v : Nat) : (writeTcnt v s).preStep = s.preStep := rfl
@[simp] theorem writeTcnt_preCnt (v : Nat) : (writeTcnt v s).preCnt = s.preCnt := rfl
@[simp] theorem writeTcnt_fault (v : Nat) : (writeTcnt v s).fault = s.fault := rfl
@[simp] theorem writeTcnt_power (v : Nat) : (writeTcnt v s).power = s.power := rfl

@[simp] theorem writeOcr_cfg (v : Nat) : (writeOcr v s).cfg = s.cfg := rfl
@[simp] theorem writeOcr_script (v : Nat) : (writeOcr v s).script = s.script := rfl
@[simp] theorem writeOcr_held (v : Nat) : (writeOcr v s).held = s.held := rfl
@[simp] theorem writeOcr_cmd (v : Nat) : (writeOcr v s).cmd = s.cmd := rfl
@[simp] theorem writeOcr_phase (v : Nat) : (writeOcr v s).phase = s.phase := rfl
@[simp] theorem writeOcr_bits (v : Nat) : (writeOcr v s).bits = s.bits := rfl
@[simp] theorem writeOcr_repeats (v : Nat) : (writeOcr v s).repeats = s.repeats := rfl
@[simp] theorem writeOcr_lowering (v : Nat) : (writeOcr v s).lowering = s.lowering := rfl
@[simp] theorem writeOcr_tcnt (v : Nat) : (writeOcr v s).tcnt = s.tcnt := rfl
@[simp] theorem writeOcr_ocr (v : Nat) : (writeOcr v s).ocr = trunc s.cfg.tw v := rfl
@[simp] theorem writeOcr_toggle (v : Nat) : (writeOcr v s).toggle = s.toggle := rfl
@[simp] theorem writeOcr_tif (v : Nat) : (writeOcr v s).tif = s.tif := rfl
@[simp] theorem writeOcr_tie (v : Nat) : (writeOcr v s).tie = s.tie := rfl
@[simp] theorem writeOcr_cif (v : Nat) : (writeOcr v s).cif = s.cif := rfl
@[simp] theorem writeOcr_cie (v : Nat) : (writeOcr v s).cie = s.cie := rfl
@[simp] theorem writeOcr_gie (v : Nat) : (writeOcr v s).gie = s.gie := rfl
@[simp] theorem writeOcr_key (v : Nat) : (writeOcr v s).key = s.key := rfl
@[simp] theorem writeOcr_execSt (v : Nat) : (writeOcr v s).execSt = s.execSt := rfl
@[simp] theorem writeOcr_preCtx (v : Nat) : (writeOcr v s).preCtx = s.preCtx := rfl
@[simp] theorem writeOcr_preStep (v : Nat) : (writeOcr v s).preStep = s.preStep := rfl
@[simp] theorem writeOcr_preCnt (v : Nat) : (writeOcr v s).preCnt = s.preCnt := rfl
@[simp] theorem writeOcr_fault (v : Nat) : (writeOcr v s).fault = s.fault := rfl
@[simp] theorem writeOcr_power (v : Nat) : (writeOcr v s).power = s.power := rfl

@[simp] theorem writeToggle_cfg (v : Bool) : (writeToggle v s).cfg = s.cfg := rfl
@[simp] theorem writeToggle_script (v : Bool) : (writeToggle v s).script = s.script := rfl
@[simp] theorem writeToggle_held (v : Bool) : (writeToggle v s).held = s.held := rfl
@[simp] theorem writeToggle_cmd (v : Bool) : (writeToggle v s).cmd = s.cmd := rfl
@[simp] theorem writeToggle_phase (v : Bool) : (writeToggle v s).phase = s.phase := rfl
@[simp] theorem writeToggle_bits (v : Bool) : (writeToggle v s).bits = s.bits := rfl
@[simp] theorem writeToggle_repeats (v : Bool) : (writeToggle v s).repeats = s.repeats := rfl
@[simp] theorem writeToggle_lowering (v : Bool) : (writeToggle v s).lowering = s.lowering := rfl
@[simp] theorem writeToggle_tcnt (v : Bool) : (writeToggle v s).tcnt = s.tcnt := rfl
@[simp] theorem writeToggle_ocr (v : Bool) : (writeToggle v s).ocr = s.ocr := rfl
@[simp] theorem writeToggle_toggle (v : Bool) : (writeToggle v s).toggle = v := rfl
@[simp] theorem writeToggle_tif (v : Bool) : (writeToggle v s).tif = s.tif := rfl
@[simp] theorem writeToggle_tie (v : Bool) : (writeToggle v s).tie = s.tie := rfl
@[simp] theorem writeToggle_cif (v : Bool) : (writeToggle v s).cif = s.cif := rfl
@[simp] theorem writeToggle_cie (v : Bool) : (writeToggle v s).cie = s.cie := rfl
@[simp] theorem writeToggle_gie (v : Bool) : (writeToggle v s).gie = s.gie := rfl
@[simp] theorem writeToggle_key (v : Bool) : (writeToggle v s).key = s.key := rfl
@[simp] theorem writeToggle_execSt (v : Bool) : (writeToggle v s).execSt = s.execSt := rfl
@[simp] theorem writeToggle_preCtx (v : Bool) : (writeToggle v s).preCtx = s.preCtx := rfl
@[simp] theorem writeToggle_preStep (v : Bool) : (writeToggle v s).preStep = s.preStep := rfl
@[simp] theorem writeToggle_preCnt (v : Bool) : (writeToggle v s).preCnt = s.preCnt := rfl
@[simp] theorem writeToggle_fault (v : Bool) : (writeToggle v s).fault = s.fault := rfl
@[simp] theorem writeToggle_power (v : Bool) : (writeToggle v s).power = s.power := rfl

@[simp] theorem writeTif_cfg (v : Bool) : (writeTif v s).cfg = s.cfg := rfl
@[simp] theorem writeTif_script (v : Bool) : (writeTif v s).script = s.script := rfl
@[simp] theorem writeTif_held (v : Bool) : (writeTif v s).held = s.held := rfl
@[simp] theorem writeTif_cmd (v : Bool) : (writeTif v s).cmd = s.cmd := rfl
@[simp] theorem writeTif_phase (v : Bool) : (writeTif v s).phase = s.phase := rfl
@[simp] theorem writeTif_bits (v : Bool) : (writeTif v s).bits = s.bits := rfl
@[simp] theorem writeTif_repeats (v : Bool) : (writeTif v s).repeats = s.repeats := rfl
@[simp] theorem writeTif_lowering (v : Bool) : (writeTif v s).lowering = s.lowering := rfl
@[simp] theorem writeTif_tcnt (v : Bool) : (writeTif v s).tcnt = s.tcnt := rfl
@[simp] theorem writeTif_ocr (v : Bool) : (writeTif v s).ocr = s.ocr := rfl
@[simp] theorem writeTif_toggle (v : Bool) : (writeTif v s).toggle = s.toggle := rfl
@[simp] theorem writeTif_tif (v : Bool) : (writeTif v s).tif = v := rfl
@[simp] theorem writeTif_tie (v : Bool) : (writeTif v s).tie = s.tie := rfl
@[simp] theorem writeTif_cif (v : Bool) : (writeTif v s).cif = s.cif := rfl
@[simp] theorem writeTif_cie (v : Bool) : (writeTif v s).cie = s.cie := rfl
@[simp] theorem writeTif_gie (v : Bool) : (writeTif v s).gie = s.gie := rfl
@[simp] theorem writeTif_key (v : Bool) : (writeTif v s).key = s.key := rfl
@[simp] theorem writeTif_execSt (v : Bool) : (writeTif v s).execSt = s.execSt := rfl
@[simp] theorem writeTif_preCtx (v : Bool) : (writeTif v s).preCtx = s.preCtx := rfl
@[simp] theorem writeTif_preStep (v : Bool) : (writeTif v s).preStep = s.preStep := rfl
@[simp] theorem writeTif_preCnt (v : Bool) : (writeTif v s).preCnt = s.preCnt := rfl
@[simp] theorem writeTif_fault (v : Bool) : (writeTif v s).fault = s.fault := rfl
@[simp] theorem writeTif_power (v : Bool) : (writeTif v s).power = s.power := rfl

@[simp] theorem writeTie_cfg (v : Bool) : (writeTie v s).cfg = s.cfg := rfl
@[simp] theorem writeTie_script (v : Bool) : (writeTie v s).script = s.script := rfl
@[simp] theorem writeTie_held (v : Bool) : (writeTie v s).held = s.held := rfl
@[simp] theorem writeTie_cmd (v : Bool) : (writeTie v s).cmd = s.cmd := rfl
@[simp] theorem writeTie_phase (v : Bool) : (writeTie v s).phase = s.phase := rfl
@[simp] theorem writeTie_bits (v : Bool) : (writeTie v s).bits = s.bits := rfl
@[simp] theorem writeTie_repeats (v : Bool) : (writeTie v s).repeats = s.repeats := rfl
@[simp] theorem writeTie_lowering (v : Bool) : (writeTie v s).lowering = s.lowering := rfl
@[simp] theorem writeTie_tcnt (v : Bool) : (writeTie v s).tcnt = s.tcnt := rfl
@[simp] theorem writeTie_ocr (v : Bool) : (writeTie v s).ocr = s.ocr := rfl
@[simp] theorem writeTie_toggle (v : Bool) : (writeTie v s).toggle = s.toggle := rfl
@[simp] theorem writeTie_tif (v : Bool) : (writeTie v s).tif = s.tif := rfl
@[simp] theorem writeTie_tie (v : Bool) : (writeTie v s).tie = v := rfl
@[simp] theorem writeTie_cif (v : Bool) : (writeTie v s).cif = s.cif := rfl
@[simp] theorem writeTie_cie (v : Bool) : (writeTie v s).cie = s.cie := rfl
@[simp] theorem writeTie_gie (v : Bool) : (writeTie v s).gie = s.gie := rfl
@[simp] theorem writeTie_key (v : Bool) : (writeTie v s).key = s.key := rfl
@[simp] theorem writeTie_execSt (v : Bool) : (writeTie v s).execSt = s.execSt := rfl
@[simp] theorem writeTie_preCtx (v : Bool) : (writeTie v s).preCtx = s.preCtx := rfl
@[simp] theorem writeTie_preStep (v : Bool) : (writeTie v s).preStep = s.preStep := rfl
@[simp] theorem writeTie_preCnt (v : Bool) : (writeTie v s).preCnt = s.preCnt := rfl
@[simp] theorem writeTie_fault (v : Bool) : (writeTie v s).fault = s.fault := rfl
@[simp] theorem writeTie_power (v : Bool) : (writeTie v s).power = s.power := rfl

@[simp] theorem writeCif_cfg (v : Bool) : (writeCif v s).cfg = s.cfg := rfl
@[simp] theorem writeCif_script (v : Bool) : (writeCif v s).script = s.script := rfl
@[simp] theorem writeCif_held (v : Bool) : (writeCif v s).held = s.held := rfl
@[simp] theorem writeCif_cmd (v : Bool) : (writeCif v s).cmd = s.cmd := rfl
@[simp] theorem writeCif_phase (v : Bool) : (writeCif v s).phase = s.phase := rfl
@[simp] theorem writeCif_bits (v : Bool) : (writeCif v s).bits = s.bits := rfl
@[simp] theorem writeCif_repeats (v : Bool) : (writeCif v s).repeats = s.repeats := rfl
@[simp] theorem writeCif_lowering (v : Bool) : (writeCif v s).lowering = s.lowering := rfl
@[simp] theorem writeCif_tcnt (v : Bool) : (writeCif v s).tcnt = s.tcnt := rfl
@[simp] theorem writeCif_ocr (v : Bool) : (writeCif v s).ocr = s.ocr := rfl
@[simp] theorem writeCif_toggle (v : Bool) : (writeCif v s).toggle = s.toggle := rfl
@[simp] theorem writeCif_tif (v : Bool) : (writeCif v s).tif = s.tif := rfl
@[simp] theorem writeCif_tie (v : Bool) : (writeCif v s).tie = s.tie := rfl
@[simp] theorem writeCif_cif (v : Bool) : (writeCif v s).cif = v := rfl
@[simp] theorem writeCif_cie (v : Bool) : (writeCif v s).cie = s.cie := rfl
@[simp] theorem writeCif_gie (v : Bool) : (writeCif v s).gie = s.gie := rfl
@[simp] theorem writeCif_key (v : Bool) : (writeCif v s).key = s.key := rfl
@[simp] theorem writeCif_execSt (v : Bool) : (writeCif v s).execSt = s.execSt := rfl
@[simp] theorem writeCif_preCtx (v : Bool) : (writeCif v s).preCtx = s.preCtx := rfl
@[simp] theorem writeCif_preStep (v : Bool) : (writeCif v s).preStep = s.preStep := rfl
@[simp] theorem writeCif_preCnt (v : Bool) : (writeCif v s).preCnt = s.preCnt := rfl
@[simp] theorem writeCif_fault (v : Bool) : (writeCif v s).fault = s.fault := rfl
@[simp] theorem writeCif_power (v : Bool) : (writeCif v s).power = s.power := rfl

@[simp] theorem writeCie_cfg (v : Bool) : (writeCie v s).cfg = s.cfg := rfl
@[simp] theorem writeCie_script (v : Bool) : (writeCie v s).script = s.script := rfl
@[simp] theorem writeCie_held (v : Bool) : (writeCie v s).held = s.held := rfl
@[simp] theorem writeCie_cmd (v : Bool) : (writeCie v s).cmd = s.cmd := rfl
@[simp] theorem writeCie_phase (v : Bool) : (writeCie v s).phase = s.phase := rfl
@[simp] theorem writeCie_bits (v : Bool) : (writeCie v s).bits = s.bits := rfl
@[simp] theorem writeCie_repeats (v : Bool) : (writeCie v s).repeats = s.repeats := rfl
@[simp] theorem writeCie_lowering (v : Bool) : (writeCie v s).lowering = s.lowering := rfl
@[simp] theorem writeCie_tcnt (v : Bool) : (writeCie v s).tcnt = s.tcnt := rfl
@[simp] theorem writeCie_ocr (v : Bool) : (writeCie v s).ocr = s.ocr := rfl
@[simp] theorem writeCie_toggle (v : Bool) : (writeCie v s).toggle = s.toggle := rfl
@[simp] theorem writeCie_tif (v : Bool) : (writeCie v s).tif = s.tif := rfl
@[simp] theorem writeCie_tie (v : Bool) : (writeCie v s).tie = s.tie := rfl
@[simp] theorem writeCie_cif (v : Bool) : (writeCie v s).cif = s.cif := rfl
@[simp] theorem writeCie_cie (v : Bool) : (writeCie v s).cie = v := rfl
@[simp] theorem writeCie_gie (v : Bool) : (writeCie v s).gie = s.gie := rfl
@[simp] theorem writeCie_key (v : Bool) : (writeCie v s).key = s.key := rfl
@[simp] theorem writeCie_execSt (v : Bool) : (writeCie v s).execSt = s.execSt := rfl
@[simp] theorem writeCie_preCtx (v : Bool) : (writeCie v s).preCtx = s.preCtx := rfl
@[simp] theorem writeCie_preStep (v : Bool) : (writeCie v s).preStep = s.preStep := rfl
@[simp] theorem writeCie_preCnt (v : Bool) : (writeCie v s).preCnt = s.preCnt := rfl
@[simp] theorem writeCie_fault (v : Bool) : (writeCie v s).fault = s.fault := rfl
@[simp] theorem writeCie_power (v : Bool) : (writeCie v s).power = s.power := rfl

@[simp] theorem writeGie_cfg (v : Bool) : (writeGie v s).cfg = s.cfg := rfl
@[simp] theorem writeGie_script (v : Bool) : (writeGie v s).script = s.script := rfl
@[simp] theorem writeGie_held (v : Bool) : (writeGie v s).held = s.held := rfl
@[simp] theorem writeGie_cmd (v : Bool) : (writeGie v s).cmd = s.cmd := rfl
@[simp] theorem writeGie_phase (v : Bool) : (writeGie v s).phase = s.phase := rfl
@[simp] theorem writeGie_bits (v : Bool) : (writeGie v s).bits = s.bits := rfl
@[simp] theorem writeGie_repeats (v : Bool) : (writeGie v s).repeats = s.repeats := rfl
@[simp] theorem writeGie_lowering (v : Bool) : (writeGie v s).lowering = s.lowering := rfl
@[simp] theorem writeGie_tcnt (v : Bool) : (writeGie v s).tcnt = s.tcnt := rfl
@[simp] theorem writeGie_ocr (v : Bool) : (writeGie v s).ocr = s.ocr := rfl
@[simp] theorem writeGie_toggle (v : Bool) : (writeGie v s).toggle = s.toggle := rfl
@[simp] theorem writeGie_tif (v : Bool) : (writeGie v s).tif = s.tif := rfl
@[simp] theorem writeGie_tie (v : Bool) : (writeGie v s).tie = s.tie := rfl
@[simp] theorem writeGie_cif (v : Bool) : (writeGie v s).cif = s.cif := rfl
@[simp] theorem writeGie_cie (v : Bool) : (writeGie v s).cie = s.cie := rfl
@[simp] theorem writeGie_gie (v : Bool) : (writeGie v s).gie = v := rfl
@[simp] theorem writeGie_key (v : Bool) : (writeGie v s).key = s.key := rfl
@[simp] theorem writeGie_execSt (v : Bool) : (writeGie v s).execSt = s.execSt := rfl
@[simp] theorem writeGie_preCtx (v : Bool) : (writeGie v s).preCtx = s.preCtx := rfl
@[simp] theorem writeGie_preStep (v : Bool) : (writeGie v s).preStep = s.preStep := rfl
@[simp] theorem writeGie_preCnt (v : Bool) : (writeGie v s).preCnt = s.preCnt := rfl
@[simp] theorem writeGie_fault (v : Bool) : (writeGie v s).fault = s.fault := rfl
@[simp] theorem writeGie_power (v : Bool) : (writeGie v s).power = s.power := rfl

@[simp] theorem writeKey_cfg (v : Bool) : (writeKey v s).cfg = s.cfg := rfl
@[simp] theorem writeKey_script (v : Bool) : (writeKey v s).script = s.script := rfl
@[simp] theorem writeKey_held (v : Bool) : (writeKey v s).held = s.held := rfl
@[simp] theorem writeKey_cmd (v : Bool) : (writeKey v s).cmd = s.cmd := rfl
@[simp] theorem writeKey_phase (v : Bool) : (writeKey v s).phase = s.phase := rfl
@[simp] theorem writeKey_bits (v : Bool) : (writeKey v s).bits = s.bits := rfl
@[simp] theorem writeKey_repeats (v : Bool) : (writeKey v s).repeats = s.repeats := rfl
@[simp] theorem writeKey_lowering (v : Bool) : (writeKey v s).lowering = s.lowering := rfl
@[simp] theorem writeKey_tcnt (v : Bool) : (writeKey v s).tcnt = s.tcnt := rfl
@[simp] theorem writeKey_ocr (v : Bool) : (writeKey v s).ocr = s.ocr := rfl
@[simp] theorem writeKey_toggle (v : Bool) : (writeKey v s).toggle = s.toggle := rfl
@[simp] theorem writeKey_tif (v : Bool) : (writeKey v s).tif = s.tif := rfl
@[simp] theorem writeKey_tie (v : Bool) : (writeKey v s).tie = s.tie := rfl
@[simp] theorem writeKey_cif (v : Bool) : (writeKey v s).cif = s.cif := rfl
@[simp] theorem writeKey_cie (v : Bool) : (writeKey v s).cie = s.cie := rfl
@[simp] theorem writeKey_gie (v : Bool) : (writeKey v s).gie = s.gie := rfl
@[simp] theorem writeKey_key (v : Bool) : (writeKey v s).key = v := rfl
@[simp] theorem writeKey_execSt (v : Bool) : (writeKey v s).execSt = s.execSt := rfl
@[simp] theorem writeKey_preCtx (v : Bool) : (writeKey v s).preCtx = s.preCtx := rfl
@[simp] theorem writeKey_preStep (v : Bool) : (writeKey v s).preStep = s.preStep := rfl
@[simp] theorem writeKey_preCnt (v : Bool) : (writeKey v s).preCnt = s.preCnt := rfl
@[simp] theorem writeKey_fault (v : Bool) : (writeKey v s).fault = s.fault := rfl
@[simp] theorem writeKey_power (v : Bool) : (writeKey v s).power = s.power := rfl

@[simp] theorem writeExec_cfg (e : ExecState) : (writeExec e s).cfg = s.cfg := rfl
@[simp] theorem writeExec_script (e : ExecState) : (writeExec e s).script = s.script := rfl
@[simp] theorem writeExec_held (e : ExecState) : (writeExec e s).held = s.held := rfl
@[simp] theorem writeExec_cmd (e : ExecState) : (writeExec e s).cmd = s.cmd := rfl
@[simp] theorem writeExec_phase (e : ExecState) : (writeExec e s).phase = s.phase := rfl
@[simp] theorem writeExec_bits (e : ExecState) : (writeExec e s).bits = s.bits := rfl
@[simp] theorem writeExec_repeats (e : ExecState) : (writeExec e s).repeats = s.repeats := rfl
@[simp] theorem writeExec_lowering (e : ExecState) : (writeExec e s).lowering = s.lowering := rfl
@[simp] theorem writeExec_tcnt (e : ExecState) : (writeExec e s).tcnt = s.tcnt := rfl
@[simp] theorem writeExec_ocr (e : ExecState) : (writeExec e s).ocr = s.ocr := rfl
@[simp] theorem writeExec_toggle (e : ExecState) : (writeExec e s).toggle = s.toggle := rfl
@[simp] theorem writeExec_tif (e : ExecState) : (writeExec e s).tif = s.tif := rfl
@[simp] theorem writeExec_tie (e : ExecState) : (writeExec e s).tie = s.tie := rfl
@[simp] theorem writeExec_cif (e : ExecState) : (writeExec e s).cif = s.cif := rfl
@[simp] theorem writeExec_cie (e : ExecState) : (writeExec e s).cie = s.cie := rfl
@[simp] theorem writeExec_gie (e : ExecState) : (writeExec e s).gie = s.gie := rfl
@[simp] theorem writeExec_key (e : ExecState) : (writeExec e s).key = s.key := rfl
@[simp] theorem writeExec_execSt (e : ExecState) : (writeExec e s).execSt = e := rfl
@[simp] theorem writeExec_preCtx (e : ExecState) : (writeExec e s).preCtx = s.preCtx := rfl
@[simp] theorem writeExec_preStep (e : ExecState) : (writeExec e s).preStep = s.preStep := rfl
@[simp] theorem writeExec_preCnt (e : ExecState) : (writeExec e s).preCnt = s.preCnt := rfl
@[simp] theorem writeExec_fault (e : ExecState) : (writeExec e s).fault = s.fault := rfl
@[simp] theorem writeExec_power (e : ExecState) : (writeExec e s).power = s.power := rfl

@[simp] theorem writePreCtx_cfg (c : PreCtx) : (writePreCtx c s).cfg = s.cfg := rfl
@[simp] theorem writePreCtx_script (c : PreCtx) : (writePreCtx c s).script = s.script := rfl
@[simp] theorem writePreCtx_held (c : PreCtx) : (writePreCtx c s).held = s.held := rfl
@[simp] theorem writePreCtx_cmd (c : PreCtx) : (writePreCtx c s).cmd = s.cmd := rfl
@[simp] theorem writePreCtx_phase (c : PreCtx) : (writePreCtx c s).phase = s.phase := rfl
@[simp] theorem writePreCtx_bits (c : PreCtx) : (writePreCtx c s).bits = s.bits := rfl
@[simp] theorem writePreCtx_repeats (c : PreCtx) : (writePreCtx c s).repeats = s.repeats := rfl
@[simp] theorem writePreCtx_lowering (c : PreCtx) : (writePreCtx c s).lowering = s.lowering := rfl
@[simp] theorem writePreCtx_tcnt (c : PreCtx) : (writePreCtx c s).tcnt = s.tcnt := rfl
@[simp] theorem writePreCtx_ocr (c : PreCtx) : (writePreCtx c s).ocr = s.ocr := rfl
@[simp] theorem writePreCtx_toggle (c : PreCtx) : (writePreCtx c s).toggle = s.toggle := rfl
@[simp] theorem writePreCtx_tif (c : PreCtx) : (writePreCtx c s).tif = s.tif := rfl
@[simp] theorem writePreCtx_tie (c : PreCtx) : (writePreCtx c s).tie = s.tie := rfl
@[simp] theorem writePreCtx_cif (c : PreCtx) : (writePreCtx c s).cif = s.cif := rfl
@[simp] theorem writePreCtx_cie (c : PreCtx) : (writePreCtx c s).cie = s.cie := rfl
@[simp] theorem writePreCtx_gie (c : PreCtx) : (writePreCtx c s).gie = s.gie := rfl
@[simp] theorem writePreCtx_key (c : PreCtx) : (writePreCtx c s).key = s.key := rfl
@[simp] theorem writePreCtx_execSt (c : PreCtx) : (writePreCtx c s).execSt = s.execSt := rfl
@[simp] theorem writePreCtx_preCtx (c : PreCtx) : (writePreCtx c s).preCtx = c := rfl
@[simp] theorem writePreCtx_preStep (c : PreCtx) : (writePreCtx c s).preStep = s.preStep := rfl
@[simp] theorem writePreCtx_preCnt (c : PreCtx) : (writePreCtx c s).preCnt = s.preCnt := rfl
@[simp] theorem writePreCtx_fault (c : PreCtx) : (writePreCtx c s).fault = s.fault := rfl
@[simp] theorem writePreCtx_power (c : PreCtx) : (writePreCtx c s).power = s.power := rfl

@[simp] theorem writePreStep_cfg (i : BitVec 2) : (writePreStep i s).cfg = s.cfg := rfl
@[simp] theorem writePreStep_script (i : BitVec 2) : (writePreStep i s).script = s.script := rfl
@[simp] theorem writePreStep_held (i : BitVec 2) : (writePreStep i s).held = s.held := rfl
@[simp] theorem writePreStep_cmd (i : BitVec 2) : (writePreStep i s).cmd = s.cmd := rfl
@[simp] theorem writePreStep_phase (i : BitVec 2) : (writePreStep i s).phase = s.phase := rfl
@[simp] theorem writePreStep_bits (i : BitVec 2) : (writePreStep i s).bits = s.bits := rfl
@[simp] theorem writePreStep_repeats (i : BitVec 2) : (writePreStep i s).repeats = s.repeats := rfl
@[simp] theorem writePreStep_lowering (i : BitVec 2) : (writePreStep i s).lowering = s.lowering := rfl
@[simp] theorem writePreStep_tcnt (i : BitVec 2) : (writePreStep i s).tcnt = s.tcnt := rfl
@[simp] theorem writePreStep_ocr (i : BitVec 2) : (writePreStep i s).ocr = s.ocr := rfl
@[simp] theorem writePreStep_toggle (i : BitVec 2) : (writePreStep i s).toggle = s.toggle := rfl
@[simp] theorem writePreStep_tif (i : BitVec 2) : (writePreStep i s).tif = s.tif := rfl
@[simp] theorem writePreStep_tie (i : BitVec 2) : (writePreStep i s).tie = s.tie := rfl
@[simp] theorem writePreStep_cif (i : BitVec 2) : (writePreStep i s).cif = s.cif := rfl
@[simp] theorem writePreStep_cie (i : BitVec 2) : (writePreStep i s).cie = s.cie := rfl
@[simp] theorem writePreStep_gie (i : BitVec 2) : (writePreStep i s).gie = s.gie := rfl
@[simp] theorem writePreStep_key (i : BitVec 2) : (writePreStep i s).key = s.key := rfl
@[simp] theorem writePreStep_execSt (i : BitVec 2) : (writePreStep i s).execSt = s.execSt := rfl
@[simp] theorem writePreStep_preCtx (i : BitVec 2) : (writePreStep i s).preCtx = s.preCtx := rfl
@[simp] theorem writePreStep_preStep (i : BitVec 2) : (writePreStep i s).preStep = i := rfl
@[simp] theorem writePreStep_preCnt (i : BitVec 2) : (writePreStep i s).preCnt = s.preCnt := rfl
@[simp] theorem writePreStep_fault (i : BitVec 2) : (writePreStep i s).fault = s.fault := rfl
@[simp] theorem writePreStep_power (i : BitVec 2) : (writePreStep i s).power = s.power := rfl

@[simp] theorem writePreCnt_cfg (v : Nat) : (writePreCnt v s).cfg = s.cfg := rfl
@[simp] theorem writePreCnt_script (v : Nat) : (writePreCnt v s).script = s.script := rfl
@[simp] theorem writePreCnt_held (v : Nat) : (writePreCnt v s).held = s.held := rfl
@[simp] theorem writePreCnt_cmd (v : Nat) : (writePreCnt v s).cmd = s.cmd := rfl
@[simp] theorem writePreCnt_phase (v : Nat) : (writePreCnt v s).phase = s.phase := rfl
@[simp] theorem writePreCnt_bits (v : Nat) : (writePreCnt v s).bits = s.bits := rfl
@[simp] theorem writePreCnt_repeats (v : Nat) : (writePreCnt v s).repeats = s.repeats := rfl
@[simp] theorem writePreCnt_lowering (v : Nat) : (writePreCnt v s).lowering = s.lowering := rfl
@[simp] theorem writePreCnt_tcnt (v : Nat) : (writePreCnt v s).tcnt = s.tcnt := rfl
@[simp] theorem writePreCnt_ocr (v : Nat) : (writePreCnt v s).ocr = s.ocr := rfl
@[simp] theorem writePreCnt_toggle (v : Nat) : (writePreCnt v s).toggle = s.toggle := rfl
@[simp] theorem writePreCnt_tif (v : Nat) : (writePreCnt v s).tif = s.tif := rfl
@[simp] theorem writePreCnt_tie (v : Nat) : (writePreCnt v s).tie = s.tie := rfl
@[simp] theorem writePreCnt_cif (v : Nat) : (writePreCnt v s).cif = s.cif := rfl
@[simp] theorem writePreCnt_cie (v : Nat) : (writePreCnt v s).cie = s.cie := rfl
@[simp] theorem writePreCnt_gie (v : Nat) : (writePreCnt v s).gie = s.gie := rfl
@[simp] theorem writePreCnt_key (v : Nat) : (writePreCnt v s).key = s.key := rfl
@[simp] theorem writePreCnt_execSt (v : Nat) : (writePreCnt v s).execSt = s.execSt := rfl
@[simp] theorem writePreCnt_preCtx (v : Nat) : (writePreCnt v s).preCtx = s.preCtx := rfl
@[simp] theorem writePreCnt_preStep (v : Nat) : (writePreCnt v s).preStep = s.preStep := rfl
@[simp] theorem writePreCnt_preCnt (v : Nat) : (writePreCnt v s).preCnt = trunc s.cfg.pw v := rfl
@[simp] theorem writePreCnt_fault (v : Nat) : (writePreCnt v s).fault = s.fault := rfl
@[simp] theorem writePreCnt_power (v : Nat) : (writePreCnt v s).power = s.power := rfl

@[simp] theorem writePower_cfg (v : Bool) : (writePower v s).cfg = s.cfg := rfl
@[simp] theorem writePower_script (v : Bool) : (writePower v s).script = s.script := rfl
@[simp] theorem writePower_held (v : Bool) : (writePower v s).held = s.held := rfl
@[simp] theorem writePower_cmd (v : Bool) : (writePower v s).cmd = s.cmd := rfl
@[simp] theorem writePower_phase (v : Bool) : (writePower v s).phase = s.phase := rfl
@[simp] theorem writePower_bits (v : Bool) : (writePower v s).bits = s.bits := rfl
@[simp] theorem writePower_repeats (v : Bool) : (writePower v s).repeats = s.repeats := rfl
@[simp] theorem writePower_lowering (v : Bool) : (writePower v s).lowering = s.lowering := rfl
@[simp] theorem writePower_tcnt (v : Bool) : (writePower v s).tcnt = s.tcnt := rfl
@[simp] theorem writePower_ocr (v : Bool) : (writePower v s).ocr = s.ocr := rfl
@[simp] theorem writePower_toggle (v : Bool) : (writePower v s).toggle = s.toggle := rfl
@[simp] theorem writePower_tif (v : Bool) : (writePower v s).tif = s.tif := rfl
@[simp] theorem writePower_tie (v : Bool) : (writePower v s).tie = s.tie := rfl
@[simp] theorem writePower_cif (v : Bool) : (writePower v s).cif = s.cif := rfl
@[simp] theorem writePower_cie (v : Bool) : (writePower v s).cie = s.cie := rfl
@[simp] theorem writePower_gie (v : Bool) : (writePower v s).gie = s.gie := rfl
@[simp] theorem writePower_key (v : Bool) : (writePower v s).key = s.key := rfl
@[simp] theorem writePower_execSt (v : Bool) : (writePower v s).execSt = s.execSt := rfl
@[simp] theorem writePower_preCtx (v : Bool) : (writePower v s).preCtx = s.preCtx := rfl
@[simp] theorem writePower_preStep (v : Bool) : (writePower v s).preStep = s.preStep := rfl
@[simp] theorem writePower_preCnt (v : Bool) : (writePower v s).preCnt = s.preCnt := rfl
@[simp] theorem writePower_fault (v : Bool) : (writePower v s).fault = s.fault := rfl
@[simp] theorem writePower_power (v : Bool) : (writePower v s).power = v := rfl

@[simp] theorem writeHeld_cfg (n : Nat) : (writeHeld n s).cfg = s.cfg := rfl
@[simp] theorem writeHeld_script (n : Nat) : (writeHeld n s).script = s.script := rfl
@[simp] theorem writeHeld_held (n : Nat) : (writeHeld n s).held = n := rfl
@[simp] theorem writeHeld_cmd (n : Nat) : (writeHeld n s).cmd = s.cmd := rfl
@[simp] theorem writeHeld_phase (n : Nat) : (writeHeld n s).phase = s.phase := rfl
@[simp] theorem writeHeld_bits (n : Nat) : (writeHeld n s).bits = s.bits := rfl
@[simp] theorem writeHeld_repeats (n : Nat) : (writeHeld n s).repeats = s.repeats := rfl
@[simp] theorem writeHeld_lowering (n : Nat) : (writeHeld n s).lowering = s.lowering := rfl
@[simp] theorem writeHeld_tcnt (n : Nat) : (writeHeld n s).tcnt = s.tcnt := rfl
@[simp] theorem writeHeld_ocr (n : Nat) : (writeHeld n s).ocr = s.ocr := rfl
@[simp] theorem writeHeld_toggle (n : Nat) : (writeHeld n s).toggle = s.toggle := rfl
@[simp] theorem writeHeld_tif (n : Nat) : (writeHeld n s).tif = s.tif := rfl
@[simp] theorem writeHeld_tie (n : Nat) : (writeHeld n s).tie = s.tie := rfl
@[simp] theorem writeHeld_cif (n : Nat) : (writeHeld n s).cif = s.cif := rfl
@[simp] theorem writeHeld_cie (n : Nat) : (writeHeld n s).cie = s.cie := rfl
@[simp] theorem writeHeld_gie (n : Nat) : (writeHeld n s).gie = s.gie := rfl
@[simp] theorem writeHeld_key (n : Nat) : (writeHeld n s).key = s.key := rfl
@[simp] theorem writeHeld_execSt (n : Nat) : (writeHeld n s).execSt = s.execSt := rfl
@[simp] theorem writeHeld_preCtx (n : Nat) : (writeHeld n s).preCtx = s.preCtx := rfl
@[simp] theorem writeHeld_preStep (n : Nat) : (writeHeld n s).preStep = s.preStep := rfl
@[simp] theorem writeHeld_preCnt (n : Nat) : (writeHeld n s).preCnt = s.preCnt := rfl
@[simp] theorem writeHeld_fault (n : Nat) : (writeHeld n s).fault = s.fault := rfl
@[simp] theorem writeHeld_power (n : Nat) : (writeHeld n s).power = s.power := rfl

@[simp] theorem writeScript_cfg (env : List Env) : (writeScript env s).cfg = s.cfg := rfl
@[simp] theorem writeScript_script (env : List Env) : (writeScript env s).script = env := rfl
@[simp] theorem writeScript_held (env : List Env) : (writeScript env s).held = s.held := rfl
@[simp] theorem writeScript_cmd (env : List Env) : (writeScript env s).cmd = s.cmd := rfl
@[simp] theorem writeScript_phase (env : List Env) : (writeScript env s).phase = s.phase := rfl
@[simp] theorem writeScript_bits (env : List Env) : (writeScript env s).bits = s.bits := rfl
@[simp] theorem writeScript_repeats (env : List Env) : (writeScript env s).repeats = s.repeats := rfl
@[simp] theorem writeScript_lowering (env : List Env) : (writeScript env s).lowering = s.lowering := rfl
@[simp] theorem writeScript_tcnt (env : List Env) : (writeScript env s).tcnt = s.tcnt := rfl
@[simp] theorem writeScript_ocr (env : List Env) : (writeScript env s).ocr = s.ocr := rfl
@[simp] theorem writeScript_toggle (env : List Env) : (writeScript env s).toggle = s.toggle := rfl
@[simp] theorem writeScript_tif (env : List Env) : (writeScript env s).tif = s.tif := rfl
@[simp] theorem writeScript_tie (env : List Env) : (writeScript env s).tie = s.tie := rfl
@[simp] theorem writeScript_cif (env : List Env) : (writeScript env s).cif = s.cif := rfl
@[simp] theorem writeScript_cie (env : List Env) : (writeScript env s).cie = s.cie := rfl
@[simp] theorem writeScript_gie (env : List Env) : (writeScript env s).gie = s.gie := rfl
@[simp] theorem writeScript_key (env : List Env) : (writeScript env s).key = s.key := rfl
@[simp] theorem writeScript_execSt (env : List Env) : (writeScript env s).execSt = s.execSt := rfl
@[simp] theorem writeScript_preCtx (env : List Env) : (writeScript env s).preCtx = s.preCtx := rfl
@[simp] theorem writeScript_preStep (env : List Env) : (writeScript env s).preStep = s.preStep := rfl
@[simp] theorem writeScript_preCnt (env : List Env) : (writeScript env s).preCnt = s.preCnt := rfl
@[simp] theorem writeScript_fault (env : List Env) : (writeScript env s).fault = s.fault := rfl
@[simp] theorem writeScript_power (env : List Env) : (writeScript env s).power = s.power := rfl

@[simp] theorem raiseFault_cfg (r : FaultReason) : (raiseFault r s).cfg = s.cfg := rfl
@[simp] theorem raiseFault_script (r : FaultReason) : (raiseFault r s).script = s.script := rfl
@[simp] theorem raiseFault_held (r : FaultReason) : (raiseFault r s).held = s.held := rfl
@[simp] theorem raiseFault_cmd (r : FaultReason) : (raiseFault r s).cmd = s.cmd := rfl
@[simp] theorem raiseFault_phase (r : FaultReason) : (raiseFault r s).phase = s.phase := rfl
@[simp] theorem raiseFault_bits (r : FaultReason) : (raiseFault r s).bits = s.bits := rfl
@[simp] theorem raiseFault_repeats (r : FaultReason) : (raiseFault r s).repeats = s.repeats := rfl
@[simp] theorem raiseFault_lowering (r : FaultReason) : (raiseFault r s).lowering = s.lowering := rfl
@[simp] theorem raiseFault_tcnt (r : FaultReason) : (raiseFault r s).tcnt = s.tcnt := rfl
@[simp] theorem raiseFault_ocr (r : FaultReason) : (raiseFault r s).ocr = s.ocr := rfl
@[simp] theorem raiseFault_toggle (r : FaultReason) : (raiseFault r s).toggle = s.toggle := rfl
@[simp] theorem raiseFault_tif (r : FaultReason) : (raiseFault r s).tif = s.tif := rfl
@[simp] theorem raiseFault_tie (r : FaultReason) : (raiseFault r s).tie = s.tie := rfl
@[simp] theorem raiseFault_cif (r : FaultReason) : (raiseFault r s).cif = s.cif := rfl
@[simp] theorem raiseFault_cie (r : FaultReason) : (raiseFault r s).cie = s.cie := rfl
@[simp] theorem raiseFault_gie (r : FaultReason) : (raiseFault r s).gie = s.gie := rfl
@[simp] theorem raiseFault_key (r : FaultReason) : (raiseFault r s).key = s.key := rfl
@[simp] theorem raiseFault_execSt (r : FaultReason) : (raiseFault r s).execSt = s.execSt := rfl
@[simp] theorem raiseFault_preCtx (r : FaultReason) : (raiseFault r s).preCtx = s.preCtx := rfl
@[simp] theorem raiseFault_preStep (r : FaultReason) : (raiseFault r s).preStep = s.preStep := rfl
@[simp] theorem raiseFault_preCnt (r : FaultReason) : (raiseFault r s).preCnt = s.preCnt := rfl
@[simp] theorem raiseFault_fault (r : FaultReason) : (raiseFault r s).fault = s.fault.insert r := rfl
@[simp] theorem raiseFault_power (r : FaultReason) : (raiseFault r s).power = s.power := rfl

end Sys2Proof.Machine
end

