-- ==== Sys2Proof/Laws/Ops.lean ====
section
/-! SUPPORT. For each shared operation, one lemma that says once everything it can do. -/

namespace Sys2Proof.Machine

variable (s : State)

/-- A compare match writes `TCNT`, `KEY` and `TIF`. -/
theorem compareMatch_eq :
    compareMatch s = { s with tcnt := 0, key := if s.toggle then !s.key else s.key, tif := true } := by
  unfold compareMatch
  cases h : s.toggle <;> simp [writeTcnt, writeKey, writeTif, h]

/-- A timer tick is a match or a count (60_exceptions.md R141). -/
theorem timerTick_eq :
    timerTick s =
      if inc s.cfg.tw s.tcnt = s.ocr then
        { s with tcnt := 0, key := if s.toggle then !s.key else s.key, tif := true }
      else { s with tcnt := inc s.cfg.tw s.tcnt } := by
  unfold timerTick
  by_cases h : inc s.cfg.tw s.tcnt = s.ocr
  · simp [h, compareMatch_eq]
  · simp [h, writeTcnt]

/-- The latch writes `CIF` (60_exceptions.md R146). -/
theorem cmpLatch_eq (fall : Bool) : cmpLatch fall s = { s with cif := s.cif || fall } := by
  cases fall <;> simp [cmpLatch, writeCif]

/-- The two sub-steps before the sequencer's write `TCNT`, `KEY`, `TIF` and `CIF`. -/
theorem frontEnd_eq (env : Env) :
    frontEnd env s =
      if inc s.cfg.tw s.tcnt = s.ocr then
        { s with tcnt := 0, key := if s.toggle then !s.key else s.key, tif := true, cif := s.cif || env.fall }
      else { s with tcnt := inc s.cfg.tw s.tcnt, cif := s.cif || env.fall } := by
  unfold frontEnd
  rw [cmpLatch_eq, timerTick_eq]
  split <;> rfl

theorem frontEnd_of_match (env : Env) (h : inc s.cfg.tw s.tcnt = s.ocr) :
    frontEnd env s =
      { s with tcnt := 0, key := if s.toggle then !s.key else s.key, tif := true, cif := s.cif || env.fall } := by
  rw [frontEnd_eq, if_pos h]

theorem frontEnd_of_no_match (env : Env) (h : inc s.cfg.tw s.tcnt ≠ s.ocr) :
    frontEnd env s = { s with tcnt := inc s.cfg.tw s.tcnt, cif := s.cif || env.fall } := by
  rw [frontEnd_eq, if_neg h]

/-- ArmTimer writes the timer and its enable (42_power_loss.md R131). -/
theorem armTimer_eq :
    armTimer s =
      { s with tcnt := 0, ocr := trunc s.cfg.tw s.cfg.initDelay, toggle := true, tif := false, tie := true } := by
  simp [armTimer, writeTcnt, writeOcr, writeToggle, writeTif, writeTie]

/-- PreambleStart writes the preamble's elements, `EXEC` and `KEY` (40_preamble.md R91). -/
theorem preambleStart_eq (ctx : PreCtx) :
    preambleStart ctx s =
      { s with execSt := .preamble, preCtx := ctx, preStep := 0, preCnt := trunc s.cfg.pw s.cfg.preT0, key := true } :=
  rfl

/-- The end of the last hold (40_preamble.md R92, R93): `GIE` is set only after the boot preamble. -/
theorem preambleFinish_eq :
    preambleFinish s =
      { s with
        key := false, execSt := .run, tcnt := 0, ocr := trunc s.cfg.tw s.cfg.initDelay, toggle := true, tif := false,
        tie := true, gie := if s.preCtx = .boot then true else s.gie } := by
  unfold preambleFinish preambleDone
  cases h : s.preCtx <;>
    simp [h, armTimer_eq, writeKey, writeExec, writeGie]

/-- A preamble tick counts the hold down, starts the next one, or ends the preamble (40_preamble.md R92). -/
theorem preambleTick_eq :
    preambleTick s =
      if dec s.cfg.pw s.preCnt = 0 then
        if s.preStep.toNat < 3 then
          { s with
            preStep := s.preStep + 1, preCnt := trunc s.cfg.pw (preTime s.cfg (s.preStep + 1)),
            key := preLevel (s.preStep + 1) }
        else
          { s with
            preCnt := 0, key := false, execSt := .run, tcnt := 0, ocr := trunc s.cfg.tw s.cfg.initDelay,
            toggle := true, tif := false, tie := true, gie := if s.preCtx = .boot then true else s.gie }
      else { s with preCnt := dec s.cfg.pw s.preCnt } := by
  unfold preambleTick
  by_cases h : dec s.cfg.pw s.preCnt = 0
  · by_cases h3 : s.preStep.toNat < 3
    · simp [h, h3, preambleNextHold, writePreCnt, writePreStep, writeKey]
    · simp [h, h3, preambleFinish_eq, writePreCnt]
  · simp [h, writePreCnt]

/-! ### The meanings, each as one record update -/

theorem execOn_eq :
    execOn s = .next { s with ocr := trunc s.cfg.tw (dOn s.cfg (lowBit s)), phase := .off } := rfl

theorem execOffNext_eq :
    execOffNext s =
      .next { s with
        bits := dec s.cfg.cntW s.bits, ocr := trunc s.cfg.tw (dOff s.cfg (lowBit s))
        cmd := trunc s.cfg.cmdW (shiftRight1 s.cmd), phase := .on } := by
  simp only [execOffNext, writeBits, writeOcr, writeCmd, writePhase, trunc_dec]
  rfl

theorem execOffEnd_eq :
    execOffEnd s =
      .next { s with
        cmd := trunc s.cfg.cmdW (selCmd s), bits := trunc s.cfg.cntW s.cfg.delayLen, toggle := false, key := false
        ocr := trunc s.cfg.tw s.cfg.tIdle, phase := .delay } := by
  simp only [execOffEnd, writeBits, writeCmd, writeToggle, writeKey, writeOcr, writePhase]
  rfl

theorem execDelayWait_eq : execDelayWait s = .next { s with bits := dec s.cfg.cntW s.bits } := by
  simp only [execDelayWait, writeBits, trunc_dec]

theorem execDelayNext_eq :
    execDelayNext s =
      .next { s with
        repeats := dec s.cfg.rptW s.repeats, bits := trunc s.cfg.cntW s.cfg.frameLen, phase := .on
        toggle := true } := by
  simp only [execDelayNext, writeBits, writeRepeats, writePhase, writeToggle, trunc_dec]

theorem execDelayHalt_eq :
    execDelayHalt s =
      .next { s with
        repeats := dec s.cfg.rptW s.repeats, bits := trunc s.cfg.cntW s.cfg.frameLen, phase := .on, tie := false } := by
  simp only [execDelayHalt, writeBits, writeRepeats, writePhase, writeTie, trunc_dec]

theorem execDelayFailsafe_eq :
    execDelayFailsafe s =
      .next { s with
        bits := trunc s.cfg.cntW s.cfg.frameLen, phase := .on, lowering := false
        cmd := trunc s.cfg.cmdW s.cfg.cmdUp, repeats := trunc s.cfg.rptW s.cfg.repeatFailsafe, tie := false
        cie := true } := by
  simp only [execDelayFailsafe, writeBits, writeRepeats, writePhase, writeLowering, writeCmd, writeTie, writeCie]

theorem execPlFire_eq :
    execPlFire s =
      .next { s with
        cie := false, execSt := .preamble, preCtx := .pl, preStep := 0, preCnt := trunc s.cfg.pw s.cfg.preT0
        key := true } := by
  simp only [execPlFire, writeCie, preambleStart_eq]

theorem execBoot_eq :
    execBoot s =
      .next { s with
        execSt := .preamble, preCtx := .boot, preStep := 0, preCnt := trunc s.cfg.pw s.cfg.preT0, key := true } := by
  simp only [execBoot, preambleStart_eq]

/-- Every operation of the block completes (60_exceptions.md R165), and none writes the model's own fields, the timer
counter, the pending flags, `GIE`, the fault set or the supply (41_encoder.md R101). -/
theorem exec_next (i : Instr) :
    ∃ t, exec i s = .next t ∧ t.cfg = s.cfg ∧ t.script = s.script ∧ t.held = s.held ∧ t.tcnt = s.tcnt ∧
      t.tif = s.tif ∧ t.cif = s.cif ∧ t.gie = s.gie ∧ t.fault = s.fault ∧ t.power = s.power := by
  cases i <;>
    simp [exec, execOn_eq, execOffNext_eq, execOffEnd_eq, execDelayWait_eq, execDelayNext_eq, execDelayHalt_eq,
      execDelayFailsafe_eq, execPlFire_eq, execBoot_eq]

/-- A timer entry: the flag is cleared, then the phase and the tests of the counters select the operation
(30_encoding.md R72, 60_exceptions.md R151). -/
theorem enter_timer_eq :
    enter .timer s =
      match s.phase with
      | .on => execOn (writeTif false s)
      | .off => if flagZB s then execOffEnd (writeTif false s) else execOffNext (writeTif false s)
      | .delay =>
        if flagZB s then
          if flagZR s then
            if flagFS s then execDelayFailsafe (writeTif false s) else execDelayHalt (writeTif false s)
          else execDelayNext (writeTif false s)
        else execDelayWait (writeTif false s)
      | .reserved => .next (raiseFault .reservedPhase (writeTif false s)) := by
  have hw : osw .timer (writeTif false s) = packOsw (lowBit s) (flagFS s) (flagZR s) (flagZB s) s.phase 0 := rfl
  simp only [enter, clearPending]
  rw [hw, decode_timer]
  cases s.phase <;> cases flagZB s <;> cases flagZR s <;> cases flagFS s <;> rfl

/-- A comparator entry runs PL.FIRE (42_power_loss.md R130). -/
theorem enter_comparator_eq : enter .comparator s = execPlFire (writeCif false s) := by
  have hw : osw .comparator (writeCif false s) =
    packOsw (lowBit s) (flagFS s) (flagZR s) (flagZB s) s.phase 1 := rfl
  simp only [enter, clearPending]
  rw [hw, decode_comparator]
  rfl

/-- The entry out of reset runs BOOT (70_reset_and_hazards.md R183). -/
theorem enter_reset_eq : enter .reset s = execBoot s := by
  have hw : osw .reset s = packOsw (lowBit s) (flagFS s) (flagZR s) (flagZB s) s.phase 2 := rfl
  simp only [enter, clearPending]
  rw [hw, decode_reset]
  rfl

/-- The operation a timer entry decodes (30_encoding.md R71, R72). -/
theorem decode_osw_timer :
    decode (osw .timer s) =
      match s.phase with
      | .on => .ok (.on (lowBit s) (flagFS s) (flagZR s) (flagZB s))
      | .off =>
        if flagZB s then .ok (.offEnd (lowBit s) (flagFS s) (flagZR s))
        else .ok (.offNext (lowBit s) (flagFS s) (flagZR s))
      | .delay =>
        if flagZB s then
          (if flagZR s then
            (if flagFS s then .ok (.delayFailsafe (lowBit s)) else .ok (.delayHalt (lowBit s)))
           else .ok (.delayNext (lowBit s) (flagFS s)))
        else .ok (.delayWait (lowBit s) (flagFS s) (flagZR s))
      | .reserved => .error .reservedPhase :=
  decode_timer (lowBit s) (flagFS s) (flagZR s) (flagZB s) s.phase

/-- The operation a comparator entry decodes (30_encoding.md R72). -/
theorem decode_osw_comparator :
    decode (osw .comparator s) = .ok (.plFire (lowBit s) (flagFS s) (flagZR s) (flagZB s) s.phase) :=
  decode_comparator (lowBit s) (flagFS s) (flagZR s) (flagZB s) s.phase

/-- The operation the entry out of reset decodes (30_encoding.md R72). -/
theorem decode_osw_reset :
    decode (osw .reset s) = .ok (.boot (lowBit s) (flagFS s) (flagZR s) (flagZB s) s.phase) :=
  decode_reset (lowBit s) (flagFS s) (flagZR s) (flagZB s) s.phase

/-- Everything an accepted timer interrupt can do: the reserved phase raises its fault, and each of the seven
operations is one record update under the condition that selects it. -/
theorem enter_timer_cases :
    (s.phase = .on ∧ decode (osw .timer s) = .ok (.on (lowBit s) (flagFS s) (flagZR s) (flagZB s)) ∧
      enter .timer s =
        .next { s with tif := false, ocr := trunc s.cfg.tw (dOn s.cfg (lowBit s)), phase := .off }) ∨
    (s.phase = .off ∧ dec s.cfg.cntW s.bits ≠ 0 ∧
      decode (osw .timer s) = .ok (.offNext (lowBit s) (flagFS s) (flagZR s)) ∧
      enter .timer s =
        .next { s with
          tif := false, bits := dec s.cfg.cntW s.bits, ocr := trunc s.cfg.tw (dOff s.cfg (lowBit s))
          cmd := trunc s.cfg.cmdW (shiftRight1 s.cmd), phase := .on }) ∨
    (s.phase = .off ∧ dec s.cfg.cntW s.bits = 0 ∧
      decode (osw .timer s) = .ok (.offEnd (lowBit s) (flagFS s) (flagZR s)) ∧
      enter .timer s =
        .next { s with
          tif := false, cmd := trunc s.cfg.cmdW (selCmd s), bits := trunc s.cfg.cntW s.cfg.delayLen
          toggle := false, key := false, ocr := trunc s.cfg.tw s.cfg.tIdle, phase := .delay }) ∨
    (s.phase = .delay ∧ dec s.cfg.cntW s.bits ≠ 0 ∧
      decode (osw .timer s) = .ok (.delayWait (lowBit s) (flagFS s) (flagZR s)) ∧
      enter .timer s = .next { s with tif := false, bits := dec s.cfg.cntW s.bits }) ∨
    (s.phase = .delay ∧ dec s.cfg.cntW s.bits = 0 ∧ dec s.cfg.rptW s.repeats ≠ 0 ∧
      decode (osw .timer s) = .ok (.delayNext (lowBit s) (flagFS s)) ∧
      enter .timer s =
        .next { s with
          tif := false, repeats := dec s.cfg.rptW s.repeats, bits := trunc s.cfg.cntW s.cfg.frameLen, phase := .on
          toggle := true }) ∨
    (s.phase = .delay ∧ dec s.cfg.cntW s.bits = 0 ∧ dec s.cfg.rptW s.repeats = 0 ∧
      (s.lowering && s.cfg.failsafeEn) = false ∧ decode (osw .timer s) = .ok (.delayHalt (lowBit s)) ∧
      enter .timer s =
        .next { s with
          tif := false, repeats := dec s.cfg.rptW s.repeats, bits := trunc s.cfg.cntW s.cfg.frameLen, phase := .on
          tie := false }) ∨
    (s.phase = .delay ∧ dec s.cfg.cntW s.bits = 0 ∧ dec s.cfg.rptW s.repeats = 0 ∧
      s.lowering = true ∧ s.cfg.failsafeEn = true ∧ decode (osw .timer s) = .ok (.delayFailsafe (lowBit s)) ∧
      enter .timer s =
        .next { s with
          tif := false, bits := trunc s.cfg.cntW s.cfg.frameLen, phase := .on, lowering := false
          cmd := trunc s.cfg.cmdW s.cfg.cmdUp, repeats := trunc s.cfg.rptW s.cfg.repeatFailsafe, tie := false
          cie := true }) ∨
    (s.phase = .reserved ∧ decode (osw .timer s) = .error .reservedPhase ∧
      enter .timer s = .next { s with tif := false, fault := s.fault.insert .reservedPhase }) := by
  rw [enter_timer_eq, decode_osw_timer]
  cases hp : s.phase
  · simp [execOn_eq, lowBit, writeTif]
  · by_cases hz : dec s.cfg.cntW s.bits = 0
    · simp [flagZB, hz, execOffEnd_eq, selCmd, writeTif]
    · simp [flagZB, hz, execOffNext_eq, lowBit, writeTif]
  · by_cases hz : dec s.cfg.cntW s.bits = 0
    · by_cases hr : dec s.cfg.rptW s.repeats = 0
      · by_cases hf : s.lowering = true ∧ s.cfg.failsafeEn = true
        · simp [flagZB, flagZR, flagFS, hz, hr, hf.1, hf.2, execDelayFailsafe_eq, writeTif]
        · have hf' : flagFS s = false := by
            simpa only [flagFS, Bool.and_eq_false_iff, not_and_or, Bool.not_eq_true] using hf
          have hf2 : (s.lowering && s.cfg.failsafeEn) = false := hf'
          simp [flagZB, flagZR, hz, hr, hf', hf2, execDelayHalt_eq, writeTif]
      · simp [flagZB, flagZR, hz, hr, execDelayNext_eq, writeTif]
    · simp [hp, flagZB, hz, execDelayWait_eq, writeTif]
  · simp [hp, raiseFault, writeTif]

/-- An accepted comparator interrupt, as one record update (42_power_loss.md R130). -/
theorem enter_comparator_next :
    enter .comparator s =
      .next { s with
        cif := false, cie := false, execSt := .preamble, preCtx := .pl, preStep := 0
        preCnt := trunc s.cfg.pw s.cfg.preT0, key := true } := by
  rw [enter_comparator_eq, execPlFire_eq]
  simp only [writeCif]

/-- What an accept step does (60_exceptions.md R150). -/
theorem accept_cases :
    (s.gie = false ∧ accept s = .next s) ∨
    (s.gie = true ∧ timerRequest s = true ∧ comparatorRequest s = true ∧ accept s = .next (raiseFault .bothArmed s)) ∨
    (s.gie = true ∧ timerRequest s = true ∧ comparatorRequest s = false ∧ accept s = enter .timer s) ∨
    (s.gie = true ∧ timerRequest s = false ∧ comparatorRequest s = true ∧ accept s = enter .comparator s) ∨
    (s.gie = true ∧ timerRequest s = false ∧ comparatorRequest s = false ∧ accept s = .next s) := by
  cases hg : s.gie <;> cases ht : timerRequest s <;> cases hc : comparatorRequest s <;> simp [accept, hg, ht, hc]

/-- What the sequencer sub-step of a RUN tick does (60_exceptions.md R155, R160). -/
theorem runTick_cases (env : Env) :
    (acceptDraw env s = true ∧ runTick env s = accept (writeHeld 0 s)) ∨
    (env.accept = false ∧ s.held < s.cfg.latMax ∧
      runTick env s = .next (writeHeld (if interruptWaiting s then s.held + 1 else 0) s)) := by
  by_cases h : acceptDraw env s = true
  · exact .inl ⟨h, by simp [runTick, h]⟩
  · refine .inr ?_
    have h' := h
    simp only [acceptDraw, Bool.or_eq_true, decide_eq_true_eq, not_or, Bool.not_eq_true, Nat.not_le] at h'
    exact ⟨h'.1, h'.2, by simp only [runTick, h]; rfl⟩

end Sys2Proof.Machine
end

