-- ==== Sys2Proof/Laws/PerInstr.lean ====
section
/-! SUPPORT. The statements about every instruction, one lemma per constructor of `Instr`. -/

namespace Sys2Proof.Laws.RoundTrip

/-- The decoder reads an instruction back from its encoding, with every field (30_encoding.md R72). -/
def Statement (i : Instr) : Prop := decode (encode i) = .ok i

theorem on (b f r z : Bool) : Statement (.on b f r z) := decode_timer b f r z .on
theorem offNext (b f r : Bool) : Statement (.offNext b f r) := decode_timer b f r false .off
theorem offEnd (b f r : Bool) : Statement (.offEnd b f r) := decode_timer b f r true .off
theorem delayWait (b f r : Bool) : Statement (.delayWait b f r) := decode_timer b f r false .delay
theorem delayNext (b f : Bool) : Statement (.delayNext b f) := decode_timer b f false true .delay
theorem delayHalt (b : Bool) : Statement (.delayHalt b) := decode_timer b false true true .delay
theorem delayFailsafe (b : Bool) : Statement (.delayFailsafe b) := decode_timer b true true true .delay
theorem plFire (b f r z : Bool) (ph : Phase) : Statement (.plFire b f r z ph) := decode_comparator b f r z ph
theorem boot (b f r z : Bool) (ph : Phase) : Statement (.boot b f r z ph) := decode_reset b f r z ph

end Sys2Proof.Laws.RoundTrip
end

