-- ==== Sys2Proof/Laws/Step.lean ====
section
/-! SUPPORT. What one step can do, said once: every step that answers a next state is one of five cases. -/

namespace Sys2Proof.Machine

variable {s t : State}

theorem faultSet_isEmpty_iff (f : FaultSet) : f.isEmpty = true ↔ f = .empty := by
  obtain ⟨a, b, c⟩ := f
  cases a <;> cases b <;> cases c <;> simp [FaultSet.isEmpty, FaultSet.empty]

/-- A step under the conditions that let the block step is the tick of 60_exceptions.md R160. -/
theorem step_of_ready (hw : s.cfg.wf = true) (hf : s.fault = .empty) (hp : s.power = true) :
    step s =
      if (nextEnv s).powerOff then .next (writePower false (consumeEnv s))
      else
        match s.execSt with
        | .reserved => .next (raiseFault .reservedExec (consumeEnv s))
        | .reset => .next (preambleStart .boot (frontEnd (nextEnv s) (consumeEnv s)))
        | .preamble => .next (preambleTick (frontEnd (nextEnv s) (consumeEnv s)))
        | .run => runTick (nextEnv s) (frontEnd (nextEnv s) (consumeEnv s)) := by
  have he : FaultSet.empty.isEmpty = true := rfl
  simp only [step, hw, if_true, tick, consumeEnv, writeScript_fault, writeScript_power, writeScript_execSt, hf, hp, he,
    Bool.not_true, Bool.false_eq_true, if_false, enter_reset_eq]
  rfl

/-- A step that answers a next state found a well-formed configuration, no fault and power, and is the power collapse,
the raise of RESERVED_EXEC, BOOT, a preamble tick, or a tick in RUN (60_exceptions.md R160). -/
theorem step_cases (h : step s = .next t) :
    s.cfg.wf = true ∧ s.fault = .empty ∧ s.power = true ∧
    (((nextEnv s).powerOff = true ∧ t = writePower false (consumeEnv s)) ∨
     ((nextEnv s).powerOff = false ∧ s.execSt = .reserved ∧ t = raiseFault .reservedExec (consumeEnv s)) ∨
     ((nextEnv s).powerOff = false ∧ s.execSt = .reset ∧
       t = preambleStart .boot (frontEnd (nextEnv s) (consumeEnv s))) ∨
     ((nextEnv s).powerOff = false ∧ s.execSt = .preamble ∧
       t = preambleTick (frontEnd (nextEnv s) (consumeEnv s))) ∨
     ((nextEnv s).powerOff = false ∧ s.execSt = .run ∧
       runTick (nextEnv s) (frontEnd (nextEnv s) (consumeEnv s)) = .next t)) := by
  by_cases hw : s.cfg.wf = true
  · by_cases hf : s.fault = .empty
    · by_cases hp : s.power = true
      · refine ⟨hw, hf, hp, ?_⟩
        rw [step_of_ready hw hf hp] at h
        cases ho : (nextEnv s).powerOff <;> simp only [ho, if_true, Bool.false_eq_true, if_false] at h
        · cases hx : s.execSt <;> simp only [hx, Host.Outcome.next.injEq] at h
          · exact .inr (.inr (.inl ⟨rfl, rfl, h.symm⟩))
          · exact .inr (.inr (.inr (.inr ⟨rfl, rfl, h⟩)))
          · exact .inr (.inr (.inr (.inl ⟨rfl, rfl, h.symm⟩)))
          · exact .inr (.inl ⟨rfl, rfl, h.symm⟩)
        · exact .inl ⟨rfl, by simpa using h.symm⟩
      · have he : FaultSet.empty.isEmpty = true := rfl
        simp [step, hw, tick, consumeEnv, hf, hp, he] at h
    · have hne : s.fault.isEmpty = false := by
        rw [← Bool.not_eq_true, faultSet_isEmpty_iff]
        exact hf
      simp [step, hw, tick, consumeEnv, hne] at h
  · simp [step, hw] at h

end Sys2Proof.Machine
end

