-- ==== Sys2Proof/Laws/Run.lean ====
section
/-! SUPPORT. The sequencer's sub-step in terms of the claims: what a RUN tick does and which operation it runs. -/

namespace Sys2Proof.Machine

open Sys2Proof.Safety

variable {s t : State}

/-- The two front sub-steps as one record update with what is known of the four elements they write. -/
theorem frontEnd_fields (env : Env) (s : State) :
    ∃ c k f, frontEnd env s = { s with tcnt := c, key := k, tif := f, cif := s.cif || env.fall } ∧ c < 2 ^ s.cfg.tw ∧
      ((inc s.cfg.tw s.tcnt = s.ocr ∧ c = 0 ∧ f = true ∧ k = (if s.toggle then !s.key else s.key)) ∨
       (inc s.cfg.tw s.tcnt ≠ s.ocr ∧ c = inc s.cfg.tw s.tcnt ∧ f = s.tif ∧ k = s.key)) := by
  rw [frontEnd_eq]
  split
  · exact ⟨_, _, _, rfl, Nat.two_pow_pos _, .inl ⟨‹_›, rfl, rfl, rfl⟩⟩
  · exact ⟨_, _, _, rfl, inc_lt _ _, .inr ⟨‹_›, rfl, rfl, rfl⟩⟩

/-- The operation of a ready RUN tick. -/
theorem stepOp_of_run (hr : Ready s) (hx : s.execSt = .run) :
    stepOp s = acceptedOp (nextEnv s) (atSequencer s) := by
  obtain ⟨hw, hf, hp, ho⟩ := hr
  have he := (faultSet_isEmpty_iff s.fault).2 hf
  simp only [stepOp, hw, he, hp, ho, hx, Bool.and_self, Bool.not_false, if_true]

/-- The operation of a ready RESET tick is BOOT. -/
theorem stepOp_of_reset (hr : Ready s) (hx : s.execSt = .reset) :
    ∃ b f r z ph, stepOp s = some (.boot b f r z ph) := by
  obtain ⟨hw, hf, hp, ho⟩ := hr
  have he := (faultSet_isEmpty_iff s.fault).2 hf
  simp only [stepOp, hw, he, hp, ho, hx, Bool.and_self, Bool.not_false, if_true, decode_osw_reset]
  exact ⟨_, _, _, _, _, rfl⟩

/-- The front sub-steps leave the configuration, `GIE` and the model's count alone. -/
theorem atSequencer_cfg_gie_held :
    (atSequencer s).cfg = s.cfg ∧ (atSequencer s).gie = s.gie ∧ (atSequencer s).held = s.held := by
  obtain ⟨c, k, f, he, -⟩ := frontEnd_fields (nextEnv s) (consumeEnv s)
  rw [atSequencer, he]
  exact ⟨rfl, rfl, rfl⟩

/-- A RUN tick that answers a next state: nothing is accepted, and the count of held ticks says why; or BOTH_ARMED is
raised; or one of the two interrupts is entered, and then `stepOp` is the operation its selector word decodes to. -/
theorem step_run_cases (h : step s = .next t) (hx : s.execSt = .run) (ho : (nextEnv s).powerOff = false) :
    (∃ n, t = { atSequencer s with held := n } ∧ stepOp s = none ∧
      ¬ AcceptsTimer s ∧ ¬ AcceptsComparator s ∧ ¬ AcceptsBoth s ∧
      ((interruptWaiting (atSequencer s) = false ∧ n = 0) ∨
       (interruptWaiting (atSequencer s) = true ∧ s.held < s.cfg.latMax ∧ n = s.held + 1))) ∨
    (AcceptsBoth s ∧ t = raiseFault .bothArmed { atSequencer s with held := 0 } ∧ stepOp s = none) ∨
    (AcceptsTimer s ∧ enter .timer { atSequencer s with held := 0 } = .next t ∧
      stepOp s = (decode (osw .timer { atSequencer s with held := 0 })).toOption) ∨
    (AcceptsComparator s ∧ enter .comparator { atSequencer s with held := 0 } = .next t ∧
      stepOp s = (decode (osw .comparator { atSequencer s with held := 0 })).toOption) := by
  obtain ⟨hw, hf, hp, -⟩ := step_cases h
  have hr : Ready s := ⟨hw, hf, hp, ho⟩
  have so := stepOp_of_run hr hx
  obtain ⟨hcfg, hgie, hheld⟩ := atSequencer_cfg_gie_held (s := s)
  simp only [AcceptsTimer, AcceptsComparator, AcceptsBoth, hx, true_and]
  rw [step_of_ready hw hf hp] at h
  simp only [ho, hx, Bool.false_eq_true, if_false] at h
  rw [show frontEnd (nextEnv s) (consumeEnv s) = atSequencer s from rfl] at h
  rw [← hgie, ← hheld, ← hcfg]
  generalize atSequencer s = u at *
  generalize nextEnv s = e at *
  rw [acceptedOp] at so
  rcases runTick_cases u e with ⟨hd, hrun⟩ | ⟨hacc, hlt, hrun⟩
  · rw [hrun] at h
    rw [hd] at so ⊢
    have e1 : timerRequest (writeHeld 0 u) = timerRequest u := rfl
    have e2 : comparatorRequest (writeHeld 0 u) = comparatorRequest u := rfl
    have e3 : (writeHeld 0 u).gie = u.gie := rfl
    rcases accept_cases (writeHeld 0 u) with ⟨hg, ha⟩ | ⟨hg, ht, hc, ha⟩ | ⟨hg, ht, hc, ha⟩ | ⟨hg, ht, hc, ha⟩ |
      ⟨hg, ht, hc, ha⟩ <;> rw [ha] at h
    · rw [e3] at hg
      rw [hg] at so
      injection h with h
      exact .inl ⟨0, h.symm, so, by simp [hg], by simp [hg], by simp [hg], .inl ⟨by simp [interruptWaiting, hg], rfl⟩⟩
    all_goals
      rw [e3] at hg
      rw [e1] at ht
      rw [e2] at hc
      rw [hg, ht, hc] at so
    · injection h with h
      exact .inr (.inl ⟨⟨hr, rfl, hg, ht, hc⟩, h.symm, so⟩)
    · exact .inr (.inr (.inl ⟨⟨hr, rfl, hg, ht, hc⟩, h, so⟩))
    · exact .inr (.inr (.inr ⟨⟨hr, rfl, hg, ht, hc⟩, h, so⟩))
    · injection h with h
      exact .inl ⟨0, h.symm, so, by simp [ht], by simp [hc], by simp [ht],
        .inl ⟨by simp [interruptWaiting, ht, hc], rfl⟩⟩
  · rw [hrun] at h
    have hd : acceptDraw e u = false := by simp [acceptDraw, hacc, hlt]
    rw [hd] at so ⊢
    injection h with h
    refine .inl ⟨_, h.symm, so, by simp, by simp, by simp, ?_⟩
    cases hi : interruptWaiting u
    · exact .inl ⟨rfl, rfl⟩
    · exact .inr ⟨rfl, hlt, rfl⟩

end Sys2Proof.Machine
end

