-- ==== Sys2Proof/Tests/Slice0.lean ====
section
/-! SUPPORT. The model's own tests: vectors of 95_test_vectors.md (named E, B, T, A, S as there), the refusal of
ill-formed terms, and, for every obligation with hypotheses, states that meet them. -/

namespace Sys2Proof.Tests

open Sys2Proof.Machine Sys2Proof.Safety

/-! ### Helpers -/

/-- Configuration EX with the fields of 95_test_vectors.md section 2, failsafe as given. -/
def ex (failsafe : Bool) : Config :=
  { Config.scenario with
    frameLen := 3, cmdDown := 0b101, cmdUp := 0b010, repeatPrimary := 1, failsafeEn := failsafe, latMax := 1 }

/-- A state in RUN with the given encoder elements, nothing armed. -/
def enc (fs : Bool) (ph : Phase) (cmd bits repeats : Nat) : State :=
  { State.resetWith (ex fs) [] with
    execSt := .run, gie := true, phase := ph, cmd := cmd, bits := bits, repeats := repeats, ocr := 10 }

/-- The same with line T armed and pending. -/
def encT (fs : Bool) (ph : Phase) (cmd bits repeats : Nat) : State :=
  { enc fs ph cmd bits repeats with tie := true, tif := true }

/-- The armed monitor: AwaitingPowerLoss after DELAY.FAILSAFE. -/
def armed (cif : Bool) : State := { enc true .on 0b010 3 20 with lowering := false, cie := true, cif := cif }

/-- A preamble state. -/
def pre (ctx : PreCtx) (i : BitVec 2) (n : Nat) : State :=
  { State.resetWith (ex true) [] with execSt := .preamble, preCtx := ctx, preStep := i, preCnt := n, key := preLevel i }

/-- The rising edge of a bit, in the ideal block. -/
def atBit (cmd bits repeats : Nat) : State :=
  { enc true .off cmd bits repeats with
    cfg := { ex true with latMax := 0 }, tie := true, toggle := true, key := true, ocr := if cmd.testBit 0 then 6 else 2 }

/-- The state an outcome goes on with. -/
def after (o : Host.Outcome State Fault Refusal) : Option State :=
  match o with
  | .next t => some t
  | _ => none

/-! ### Decoding: words written out from the patterns of 30_encoding.md R72 -/

theorem test_decode_on : decode 0b10110000 = .ok (.on true false true true) := rfl
theorem test_decode_offNext : decode 0b10000100 = .ok (.offNext true false false) := rfl
theorem test_decode_offEnd : decode 0b01010100 = .ok (.offEnd false true false) := rfl
theorem test_decode_delayWait : decode 0b00101000 = .ok (.delayWait false false true) := rfl
theorem test_decode_delayNext : decode 0b01011000 = .ok (.delayNext false true) := rfl
theorem test_decode_delayHalt : decode 0b10111000 = .ok (.delayHalt true) := rfl
theorem test_decode_delayFailsafe : decode 0b01111000 = .ok (.delayFailsafe false) := rfl
theorem test_decode_plFire : decode 0b00111001 = .ok (.plFire false false true true .delay) := rfl
theorem test_decode_boot : decode 0b01111010 = .ok (.boot false true true true .delay) := rfl
theorem test_decode_reserved_phase : decode 0b00011100 = .error .reservedPhase := rfl
theorem test_decode_invalid_source : decode 0b10001111 = .error .invalidSource := rfl
theorem test_encode_offEnd : encode (.offEnd true false true) = 0b10110100 := rfl
theorem test_table_word : decodeTableWord 8 0xF8 = some (.delayFailsafe true) := by decide
theorem test_table_word_refused : decodeTableWord 8 0x0F = none := by decide

/-- Each row, placed as the next operation after reset, runs. -/
theorem test_placed_rows_run :
    ([0x00, 0x84, 0x54, 0x28, 0x58, 0xB8, 0x78, 0x39, 0x7A] : List Nat).all
      (fun w => (after (step (State.reset.withFetchWord 8 w))).isSome) = true := by decide

/-! ### Well-formedness: an ill-formed term for each check -/

theorem test_ex_wf : (ex true).wf = true ∧ (ex false).wf = true ∧ Config.scenario.wf = true := by decide
theorem test_widths_refused :
    { ex true with cmdW := 0 }.widthsOk = false ∧ { ex true with cntW := 0 }.widthsOk = false ∧
    { ex true with rptW := 0 }.widthsOk = false ∧ { ex true with tw := 1 }.widthsOk = false ∧
    { ex true with pw := 0 }.widthsOk = false := by decide
theorem test_frameLen_refused :
    { ex true with frameLen := 0 }.frameLenOk = false ∧ { ex true with frameLen := 33 }.frameLenOk = false ∧
    { ex true with frameLen := 4, cntW := 2 }.frameLenOk = false := by decide
theorem test_commands_refused :
    { ex true with cmdDown := 2 ^ 32 }.commandsOk = false ∧ { ex true with cmdUp := 2 ^ 32 }.commandsOk = false := by
  decide
theorem test_durations_refused :
    { ex true with tOnLong := 0 }.durationsOk = false ∧ { ex true with tOnShort := 256 }.durationsOk = false ∧
    { ex true with tOffShort := 0 }.durationsOk = false ∧ { ex true with tOffLong := 256 }.durationsOk = false ∧
    { ex true with tIdle := 0 }.durationsOk = false ∧ { ex true with initDelay := 256 }.durationsOk = false := by
  decide
theorem test_counts_refused :
    { ex true with delayLen := 0 }.countsOk = false ∧ { ex true with repeatPrimary := 256 }.countsOk = false ∧
    { ex true with repeatFailsafe := 0 }.countsOk = false := by decide
theorem test_preamble_refused :
    { ex true with preT0 := 0 }.preambleOk = false ∧ { ex true with preT1 := 65536 }.preambleOk = false ∧
    { ex true with preT2 := 0 }.preambleOk = false ∧ { ex true with preT3 := 65536 }.preambleOk = false := by decide
theorem test_instr_refused : (Instr.delayFailsafe true).wf (ex false) = false ∧
    (Instr.on false true false false).wf (ex false) = false := by decide

/-! ### The operations (95_test_vectors.md sections 2 and 3) -/

theorem test_E1_on : (after (exec (.on true false true false) (enc false .on 0b101 3 1))).map
    (fun t => (t.ocr, t.phase)) = some (6, .off) := by decide
theorem test_E3_on_reads_no_counter : (after (exec (.on true true true true) (enc true .on 0b1 1 1))).map
    (fun t => (t.bits, t.repeats)) = some (1, 1) := by decide
theorem test_E6_offNext_top_bit : (after (exec (.offNext true false false) (enc false .off 0x80000001 5 2))).map
    (fun t => (t.bits, t.ocr, t.cmd, t.phase)) = some (4, 2, 0x40000000, .on) := by decide
theorem test_E7_offNext_wrap : (after (exec (.offNext false false false) (enc false .off 0 0 2))).map
    (fun t => (t.bits, t.ocr)) = some (255, 6) := by decide
theorem test_E9_offEnd_up : (after (exec (.offEnd false false false)
    { enc true .off 0 1 20 with lowering := false, toggle := true })).map
    (fun t => (t.cmd, t.bits, t.toggle, t.phase)) = some (0b010, 3, false, .delay) := by decide
theorem test_E10_offEnd_forces_low : (after (exec (.offEnd true false true)
    { enc false .off 1 1 1 with toggle := true, key := true })).map
    (fun t => (t.cmd, t.key, t.ocr)) = some (0b101, false, 10) := by decide
theorem test_E11_delayWait : (after (exec (.delayWait true false false) (enc false .delay 0b101 3 2))).map
    (fun t => (t.bits, t.ocr, t.phase)) = some (2, 10, .delay) := by decide
theorem test_E13_delayNext : (after (exec (.delayNext false false) (enc false .delay 0b10 1 2))).map
    (fun t => (t.repeats, t.bits, t.phase, t.toggle, t.key)) = some (1, 3, .on, true, false) := by decide
theorem test_E15_delayHalt : (after (exec (.delayHalt true) (encT false .delay 0b101 1 1))).map
    (fun t => (t.repeats, t.bits, t.phase, t.tie)) = some (0, 3, .on, false) := by decide
theorem test_E18_delayFailsafe : (after (exec (.delayFailsafe true)
    { encT true .delay 0b101 1 1 with cif := true })).map
    (fun t => (t.cmd, t.repeats, t.lowering, t.tie, t.cie, t.cif)) = some (0b010, 20, false, false, true, true) := by
  decide
theorem test_B7_plFire : (after (step (armed true))).map
    (fun t => (t.cif, t.cie, t.execSt, t.preCnt, t.key, t.cmd)) = some (false, false, .preamble, 8, true, 0b010) := by
  decide
theorem test_B1_boot : (after (step (State.resetWith (ex false) []))).map
    (fun t => (t.tcnt, t.execSt, t.preStep, t.preCnt, t.key)) = some (1, .preamble, 0, 8, true) := by decide

/-! ### The internal steps (95_test_vectors.md sections 3 and 4) -/

theorem test_B3_next_hold : (fun t : State => (t.preStep, t.preCnt, t.key)) (preambleTick (pre .boot 0 1)) =
    (1, 4, false) := by decide
theorem test_B5_preamble_end : (fun t : State => (t.execSt, t.ocr, t.toggle, t.tie, t.gie))
    (preambleTick (pre .boot 3 1)) = (.run, 5, true, true, true) := by decide
theorem test_B10_armTimer : (fun t : State => (t.tcnt, t.ocr, t.toggle, t.tif, t.tie))
    (armTimer { enc true .on 0 3 1 with tcnt := 4, tif := true }) = (0, 5, true, false, true) := by decide
theorem test_T1_match : (fun t : State => (t.tcnt, t.key, t.tif))
    (timerTick { enc true .on 0 3 1 with tcnt := 4, ocr := 5, toggle := true }) = (0, true, true) := by decide
theorem test_T3_zero_threshold : (fun t : State => (t.tcnt, t.tif))
    (timerTick { enc true .on 0 3 1 with tcnt := 255, ocr := 0 }) = (0, true) := by decide
theorem test_A4_both_armed : (after (step { encT true .on 0 3 1 with cie := true, cif := true })).map
    (fun t => t.fault) = some ⟨false, true, false⟩ := by decide
theorem test_E19_reserved_phase : (after (step (encT true .reserved 0 2 2))).map
    (fun t => (t.fault, t.tif, t.bits)) = some (⟨true, false, false⟩, false, 2) := by decide
theorem test_S2_faulted : (after (step { enc true .on 0 3 1 with fault := ⟨false, true, false⟩ })).isNone = true := by
  decide

/-! ### Witnesses: states that meet the hypotheses of the obligations, clause by clause -/

theorem witness_EncodeOfDecodeIsTheWord : decode 0x38 = .ok (.delayHalt false) := rfl

theorem witness_ReservedWordsAreTheOnlyOnesRejected :
    ((0x38 : Osw) &&& 0x0F ≠ 0x0C ∧ (0x38 : Osw) &&& 0x03 ≠ 0x03) ∧ (0x0C : Osw) &&& 0x0F = 0x0C ∧
    (0xFF : Osw) &&& 0x03 = 0x03 := by decide

/-- For the operations: a well-formed build, and elements inside their widths at both ends of the counters. -/
theorem witness_operations :
    (ex true).wf = true ∧ Fits (enc true .off 0b101 0 0) ∧ Fits (enc true .delay 0b101 1 1) ∧
    Fits (enc true .delay 0b101 255 255) := by decide

/-- States that meet the selecting conditions of the operations, at the counters' boundary values. -/
theorem witness_operations_selected :
    ((enc true .on 0b101 3 1).phase = .on ∧ (enc true .off 0b101 0 1).bits ≠ 1 ∧ (enc true .off 0b101 2 1).bits ≠ 1 ∧
      (enc true .off 0b101 1 1).bits = 1) ∧
    ((enc true .delay 0b101 2 1).bits ≠ 1 ∧ (enc true .delay 0b101 1 2).repeats ≠ 1 ∧
      (enc true .delay 0b101 1 0).repeats ≠ 1 ∧ (enc true .delay 0b101 1 1).repeats = 1) ∧
    ((enc true .delay 0b101 1 1).lowering = true ∧ (enc true .delay 0b101 1 1).cfg.failsafeEn = true ∧
      (enc false .delay 0b101 1 1).cfg.failsafeEn = false ∧ (armed true).lowering = false) := by decide

theorem witness_StepRunsTheDecodedOperation_reset :
    Ready (State.resetWith (ex true) []) ∧
    decode (osw .reset (atSequencer (State.resetWith (ex true) []))) = .ok (.boot true true true false .on) :=
  ⟨by decide, rfl⟩

theorem witness_StepRunsTheDecodedOperation_timer :
    Ready (encT true .on 0b101 3 1) ∧
    acceptDraw (nextEnv (encT true .on 0b101 3 1)) (atSequencer (encT true .on 0b101 3 1)) = true ∧
    timerRequest (atSequencer (encT true .on 0b101 3 1)) = true ∧
    comparatorRequest (atSequencer (encT true .on 0b101 3 1)) = false ∧
    decode (osw .timer (atSequencer (encT true .on 0b101 3 1))) = .ok (.on true true true false) :=
  ⟨by decide, by decide, by decide, by decide, rfl⟩

theorem witness_StepRunsTheDecodedOperation_comparator :
    Ready (armed true) ∧ acceptDraw (nextEnv (armed true)) (atSequencer (armed true)) = true ∧
    timerRequest (atSequencer (armed true)) = false ∧ comparatorRequest (atSequencer (armed true)) = true ∧
    decode (osw .comparator (atSequencer (armed true))) = .ok (.plFire false false false false .on) :=
  ⟨by decide, by decide, by decide, by decide, rfl⟩

theorem witness_OnlyFormableOperationsRun :
    stepOp (encT true .delay 0b101 1 1) = some (.delayFailsafe true) := by decide

theorem witness_IllFormedConfigurationIsRefused :
    (State.resetWith { ex true with tIdle := 0 } []).cfg.wf = false := by decide

theorem witness_QuiescentBlockTakesNoStep :
    ({ enc true .on 0 3 1 with fault := ⟨false, false, true⟩ } : State).fault ≠ .empty ∧
    ({ enc true .on 0 3 1 with power := false } : State).fault = .empty ∧
    ({ enc true .on 0 3 1 with power := false } : State).power = false := by decide

theorem witness_PowerCollapseStopsTheTick :
    (nextEnv (State.resetWith (ex true) [⟨false, true, true⟩])).powerOff = true := by decide

theorem witness_ModelFaultsAreRecorded :
    Ready { enc true .on 0 3 1 with execSt := .reserved } ∧
    (Ready { encT true .on 0 3 1 with cie := true, cif := true } ∧
      timerRequest (atSequencer { encT true .on 0 3 1 with cie := true, cif := true }) = true ∧
      comparatorRequest (atSequencer { encT true .on 0 3 1 with cie := true, cif := true }) = true) ∧
    (Ready (encT true .reserved 0 2 2) ∧ timerRequest (atSequencer (encT true .reserved 0 2 2)) = true ∧
      comparatorRequest (atSequencer (encT true .reserved 0 2 2)) = false ∧
      acceptDraw (nextEnv (encT true .reserved 0 2 2)) (atSequencer (encT true .reserved 0 2 2)) = true) := by
  decide

theorem witness_NothingIsAcceptedUnlessPendingAndEnabled :
    Ready { encT true .on 0 3 1 with gie := false } ∧
    interruptWaiting (atSequencer { encT true .on 0 3 1 with gie := false }) = false ∧
    Ready (enc true .on 0 3 1) ∧ interruptWaiting (atSequencer (enc true .on 0 3 1)) = false := by decide

/-- A state whose script holds the next tick. -/
def holding (held : Nat) : State := { encT true .on 0b101 3 1 with script := [⟨false, false, false⟩], held := held }

theorem witness_WaitingInterruptIsHeldAtMostLatMaxTicks :
    Ready (holding 0) ∧ interruptWaiting (atSequencer (holding 0)) = true ∧ (nextEnv (holding 0)).accept = false ∧
    (holding 0).held < (holding 0).cfg.latMax ∧
    Ready (holding 1) ∧ interruptWaiting (atSequencer (holding 1)) = true ∧ (holding 1).cfg.latMax ≤ (holding 1).held := by
  decide

theorem witness_NextMatchComesAfterTheInterval :
    ticksToMatch { enc true .on 0 3 1 with tcnt := 4, ocr := 5 } = 1 ∧
    ticksToMatch { enc true .on 0 3 1 with tcnt := 5, ocr := 5 } = 256 ∧
    ticksToMatch { enc true .on 0 3 1 with tcnt := 255, ocr := 0 } = 1 ∧ (255 : Nat) < 2 ^ (ex true).tw := by decide

theorem witness_PreambleTickCountsAndMovesOn :
    (pre .pl 0 2).preCnt < 2 ^ (ex true).pw ∧ 2 ≤ (pre .pl 0 2).preCnt ∧ (pre .pl 0 1).preCnt = 1 ∧
    (pre .pl 0 1).preStep = 0 ∧ (pre .pl 1 1).preStep = 1 ∧ (pre .pl 2 1).preStep = 2 := by decide

theorem witness_PreambleEndArmsTheTimer : (pre .pl 3 1).preCnt = 1 ∧ (pre .pl 3 1).preStep = 3 := by decide

theorem witness_PreambleEmitsItsFourHolds :
    (pre .boot 0 8).cfg.wf = true ∧ (pre .boot 0 8).fault = .empty ∧ (pre .boot 0 8).power = true ∧
    PowerHolds (pre .boot 0 8) ∧ (pre .boot 0 8).execSt = .preamble ∧ (pre .boot 0 8).preStep = 0 ∧
    (pre .boot 0 8).preCnt = (pre .boot 0 8).cfg.preT0 ∧ (pre .boot 0 8).key = true ∧
    (pre .boot 0 8).toggle = false ∧ 0 ≤ preTotal (pre .boot 0 8).cfg ∧ preTotal (pre .boot 0 8).cfg = 22 := by
  decide

theorem witness_FirstStepRunsBoot :
    (nextEnv (State.resetWith (ex true) [])).powerOff = false ∧
    (nextEnv (State.resetWith (ex true) [⟨true, false, false⟩])).powerOff = false := by decide

/-- The invariant in the modes Reset, Preamble, AwaitingPowerLoss, Idle and, in each phase, Transmitting. -/
theorem inv_reset : Inv (State.resetWith (ex true) []) :=
  ⟨by decide, by decide, by decide, by decide, by decide, by decide, by decide, by decide, by decide, by decide,
    by decide, by decide, by decide⟩
theorem inv_preamble : Inv (pre .boot 3 1) :=
  ⟨by decide, by decide, by decide, by decide, by decide, by decide, by decide, by decide, by decide, by decide,
    by decide, by decide, by decide⟩
theorem inv_armed : Inv (armed true) :=
  ⟨by decide, by decide, by decide, by decide, by decide, by decide, by decide, by decide, by decide, by decide,
    by decide, by decide, by decide⟩
theorem inv_idle : Inv (enc false .on 0b101 3 0) :=
  ⟨by decide, by decide, by decide, by decide, by decide, by decide, by decide, by decide, by decide, by decide,
    by decide, by decide, by decide⟩
theorem inv_delay (fs : Bool) : Inv (encT fs .delay 0b101 1 1) := by
  cases fs <;> exact ⟨by decide, by decide, by decide, by decide, by decide, by decide, by decide, by decide, by decide,
    by decide, by decide, by decide, by decide⟩

theorem witness_EveryStepKeepsTheInvariant :
    Inv (encT true .delay 0b101 1 1) ∧ (after (step (encT true .delay 0b101 1 1))).isSome = true :=
  ⟨inv_delay true, by decide⟩

theorem witness_PoweredBlockAlwaysSteps : Inv (armed true) ∧ (armed true).power = true := ⟨inv_armed, by decide⟩

/-- A state in phase OFF with no match waiting, and one in phase ON whose match waits. -/
def synced (waiting : Bool) : State :=
  { enc true (if waiting then .on else .off) 0b101 3 1 with
    tie := true, tif := waiting, toggle := true, key := true, ocr := 6, held := waiting.toNat }

theorem witness_OutputFollowsThePhase (w : Bool) :
    LatencyBelowIntervals (synced w).cfg ∧ Inv (synced w) ∧ Synced (synced w) ∧
    (after (step (synced w))).isSome = true := by
  cases w <;> exact ⟨by decide, ⟨by decide, by decide, by decide, by decide, by decide, by decide, by decide, by decide,
    by decide, by decide, by decide, by decide, by decide⟩, by decide, by decide⟩

/-- A count of held ticks with no interrupt waiting is outside the invariant (log entry 3). -/
theorem test_held_needs_a_waiting_interrupt : ¬ HeldOk { synced false with held := 1 } := by decide

theorem witness_EveryStepKeepsTheWidths :
    Fits (encT true .off 0xFFFFFFFF 0 255) ∧ (after (step (encT true .off 0xFFFFFFFF 0 255))).isSome = true := by decide

/-- A disarmed state at its match, with an edge in the tick. -/
def matching : State := { enc true .on 0 3 1 with tcnt := 9, script := [⟨true, true, false⟩] }

/-- A step that consumes a script entry, and one past the script's end. -/
theorem witness_ConfigurationNeverChanges :
    (after (step matching)).map (fun t => (t.script, decide (t.cfg = matching.cfg))) = some ([], true) ∧
    (after (step (encT true .on 0b101 3 1))).isSome = true := by decide

/-- Steps that change the elements, for the premises of the writer lists and of the rules about single elements. -/
theorem witness_writers_offNext : (after (step (encT true .off 0b101 3 1))).map
    (fun t => (t.cmd, t.phase, t.bits, t.ocr)) = some (0b10, .on, 2, 2) := by decide
theorem witness_writers_delayFailsafe : (after (step (encT true .delay 0b101 1 1))).map
    (fun t => (t.repeats, t.lowering, t.tie, t.cie)) = some (20, false, false, true) := by decide
theorem witness_writers_offEnd : (after (step { encT true .off 0b1 1 1 with toggle := true, key := true })).map
    (fun t => (t.toggle, t.key)) = some (false, false) := by decide
theorem witness_writers_preambleEnd : (after (step (pre .boot 3 1))).map
    (fun t => (t.gie, t.execSt, t.tie, t.toggle, t.ocr)) = some (true, .run, true, true, 5) := by decide
theorem witness_writers_plFire : (after (step (armed true))).map
    (fun t => (t.cie, t.key, t.execSt, t.preCtx, t.preCnt)) = some (false, true, .preamble, .pl, 8) := by decide
theorem witness_writers_power : (after (step (State.resetWith (ex true) [⟨false, true, true⟩]))).map
    (fun t => t.power) = some false := by decide

theorem witness_writers_reservedExec : (after (step { enc true .on 0 3 1 with execSt := .reserved })).map
    (fun t => t.fault) = some ⟨false, false, true⟩ := by decide
theorem witness_writers_faults :
    AcceptsBoth { encT true .on 0 3 1 with cie := true, cif := true } ∧ AcceptsTimer (encT true .reserved 0 2 2) := by
  decide

theorem witness_PendingFlagsStayUntilAccepted_cleared :
    AcceptsTimer (encT true .on 0b101 3 1) ∧ AcceptsComparator (armed true) ∧
    (after (step (encT true .on 0b101 3 1))).map (fun t => t.tif) = some false ∧
    (after (step (armed true))).map (fun t => t.cif) = some false := by decide

theorem witness_PendingFlagsStayUntilAccepted_set :
    Ready matching ∧ matching.execSt ≠ .reserved ∧
    inc matching.cfg.tw matching.tcnt = matching.ocr ∧ (nextEnv matching).fall = true ∧
    (after (step matching)).map (fun t => (t.tcnt, t.tif, t.cif)) = some (0, true, true) := by decide

/-- An edge in a tick whose timer interrupt is held, and in one whose timer interrupt is accepted, is latched. -/
theorem witness_PendingFlagsStayUntilAccepted_waiting :
    (after (step { holding 0 with script := [⟨true, false, false⟩] })).map (fun t => (t.tif, t.cif)) =
      some (true, true) ∧
    (after (step { encT true .on 0b101 3 1 with script := [⟨true, true, false⟩] })).map (fun t => (t.tif, t.cif)) =
      some (false, true) := by decide

/-- The two ticks in which the flags stay: power collapse and the reserved `EXEC`. -/
theorem witness_PendingFlagsStayUntilAccepted_stay :
    (after (step { matching with script := [⟨true, true, true⟩] })).map (fun t => (t.tif, t.cif)) =
      some (matching.tif, matching.cif) ∧
    (after (step { matching with execSt := .reserved })).map (fun t => (t.tif, t.cif)) =
      some (matching.tif, matching.cif) := by decide

theorem witness_OnlyTheArmedHandlerWritesTheEncoder :
    (after (step (encT true .delay 0b101 3 1))).map (fun t => t.bits) = some 2 := by decide

theorem witness_ComparatorEnableHasTwoWriters :
    (after (step (encT true .delay 0b101 1 1))).map (fun t => t.cie) = some true ∧
    (after (step (armed true))).map (fun t => t.cie) = some false ∧
    (after (step { enc true .on 0 3 1 with script := [⟨false, true, false⟩] })).isSome = true := by decide

theorem witness_LoweringIsClearedOnlyByTheFailsafe :
    (encT true .delay 0b101 1 1).lowering = true ∧
    (after (step (encT true .delay 0b101 1 1))).map (fun t => t.lowering) = some false ∧
    (armed true).lowering = false ∧ (after (step (armed true))).isSome = true := by decide

theorem witness_ExactlyOneModeHolds : Inv (enc false .on 0b101 3 0) := inv_idle

theorem witness_ModesChangeOnlyAlongTheTable :
    (Inv (State.resetWith (ex true) []) ∧
      (after (step (State.resetWith (ex true) []))).map (inMode .preamble) = some true) ∧
    (Inv (pre .boot 3 1) ∧ (after (step (pre .boot 3 1))).map (inMode .transmitting) = some true) ∧
    (Inv (encT false .delay 0b101 1 1) ∧
      (after (step (encT false .delay 0b101 1 1))).map (inMode .idle) = some true) ∧
    (Inv (encT true .delay 0b101 1 1) ∧
      (after (step (encT true .delay 0b101 1 1))).map (inMode .awaitingPowerLoss) = some true) ∧
    (Inv (armed true) ∧ (after (step (armed true))).map (inMode .preamble) = some true) :=
  ⟨⟨inv_reset, by decide⟩, ⟨inv_preamble, by decide⟩, ⟨inv_delay false, by decide⟩, ⟨inv_delay true, by decide⟩,
    ⟨inv_armed, by decide⟩⟩

theorem witness_HaltedBlockStaysHalted :
    Inv (enc false .on 0b101 3 0) ∧ Halted (enc false .on 0b101 3 0) ∧
    (after (Sys2Proof.core.run 2 (enc false .on 0b101 3 0))).isSome = true := ⟨inv_idle, by decide, by decide⟩

theorem witness_MonitorFiresAtMostOnce :
    ({ armed true with cie := false } : State).lowering = false ∧
    (after (Sys2Proof.core.run 1 { armed true with cie := false })).isSome = true := by decide

theorem witness_ArmedMonitorFiresOnAnEdge :
    Inv (armed true) ∧ Ready (armed true) ∧ inMode .awaitingPowerLoss (armed true) = true ∧
    acceptDraw (nextEnv (armed true)) (armed true) = true ∧ (armed true).cif = true :=
  ⟨inv_armed, by decide, by decide, by decide, by decide⟩

theorem witness_BitEmitsItsTwoSegments :
    (atBit 0b101 2 2).cfg.wf = true ∧ (atBit 0b101 2 2).fault = .empty ∧ (atBit 0b101 2 2).power = true ∧
    PowerHolds (atBit 0b101 2 2) ∧ (atBit 0b101 2 2).cfg.latMax = 0 ∧ AtBitStart (atBit 0b101 2 2) ∧
    Fits (atBit 0b101 2 2) ∧ 2 ≤ (atBit 0b101 2 2).bits := by decide

theorem witness_FramePeriodIsTheSumOfItsIntervals :
    (atBit 0b100 1 2).cfg.wf = true ∧ (atBit 0b100 1 2).fault = .empty ∧ (atBit 0b100 1 2).power = true ∧
    PowerHolds (atBit 0b100 1 2) ∧ (atBit 0b100 1 2).cfg.latMax = 0 ∧ AtBitStart (atBit 0b100 1 2) ∧
    Fits (atBit 0b100 1 2) ∧ (atBit 0b100 1 2).bits = 0 + 1 ∧ 2 ≤ (atBit 0b100 1 2).repeats := by decide

theorem witness_UnsentCommandBitsNeverShow :
    (ex true).wf = true ∧ { ex true with cmdDown := 0b1101 }.wf = true ∧
    SameSentBits (ex true) { ex true with cmdDown := 0b1101 } := by decide

theorem witness_EdgesNeverShowWithoutTheFailsafe :
    (enc false .delay 0b101 1 1).cfg.failsafeEn = false ∧ (enc false .delay 0b101 1 1).cie = false := by decide

end Sys2Proof.Tests
end

/-! The single writer of the encoder elements S0 to S4 (10_state.md R42) and of the lowering flag (R25): everything a
step does outside an accepted timer interrupt keeps S0 to S4. -/

namespace Sys2Proof.Proofs

open Sys2Proof.Machine Sys2Proof.Safety

variable {s t u : State}

/-! ### The sub-steps that keep S0 to S4 -/

theorem SameEncoder.refl (s : State) : SameEncoder s s := ⟨rfl, rfl, rfl, rfl, rfl⟩

theorem SameEncoder.trans (hst : SameEncoder s t) (htu : SameEncoder t u) : SameEncoder s u := by
  obtain ⟨hcmd, hphase, hbits, hrepeats, hlowering⟩ := hst
  obtain ⟨hcmd', hphase', hbits', hrepeats', hlowering'⟩ := htu
  exact ⟨hcmd'.trans hcmd, hphase'.trans hphase, hbits'.trans hbits, hrepeats'.trans hrepeats,
    hlowering'.trans hlowering⟩

theorem atSequencer_sameEncoder (s : State) : SameEncoder s (atSequencer s) := by
  obtain ⟨c, k, f, he, -⟩ := frontEnd_fields (nextEnv s) (consumeEnv s)
  rw [atSequencer, he]
  exact SameEncoder.refl s

/-- The front sub-steps set `TIF` whatever `TIE` is, and do not write `TIE` (60_exceptions.md R142). -/
theorem atSequencer_tie (s : State) : (atSequencer s).tie = s.tie := by
  obtain ⟨c, k, f, he, -⟩ := frontEnd_fields (nextEnv s) (consumeEnv s)
  rw [atSequencer, he]
  rfl

theorem preambleStart_sameEncoder (ctx : PreCtx) (s : State) : SameEncoder s (preambleStart ctx s) := by
  rw [preambleStart_eq]
  exact SameEncoder.refl s

theorem preambleTick_sameEncoder (s : State) : SameEncoder s (preambleTick s) := by
  rw [preambleTick_eq]
  split
  · split <;> exact SameEncoder.refl s
  · exact SameEncoder.refl s

theorem enter_comparator_sameEncoder (h : enter .comparator s = .next t) : SameEncoder s t := by
  rw [enter_comparator_next] at h
  obtain rfl := Host.Outcome.next.inj h
  exact SameEncoder.refl s

/-! ### The accepted timer interrupt -/

theorem tie_of_acceptsTimer (h : AcceptsTimer s) : s.tie = true := by
  obtain ⟨-, -, -, -, htimer, -⟩ := h
  rw [timerRequest, atSequencer_tie, Bool.and_eq_true] at htimer
  exact htimer.1

/-- The coming step enters the timer-compare operation that `stepOp` names, on a state `u` that still has the encoder of
`s`, and answers `t` (60_exceptions.md R150, R151). -/
abbrev EntersTimer (s u t : State) : Prop :=
  AcceptsTimer s ∧ SameEncoder s u ∧ u.cfg = s.cfg ∧ enter .timer u = .next t ∧
  stepOp s = (decode (osw .timer u)).toOption

/-- The single writer: a step keeps S0 to S4, or it is the entry of an accepted timer interrupt (10_state.md R42). -/
theorem sameEncoder_or_entersTimer (h : step s = .next t) :
    SameEncoder s t ∨ ∃ u, EntersTimer s u t := by
  have hfront := atSequencer_sameEncoder s
  have hheld : ∀ n, SameEncoder s { atSequencer s with held := n } := fun _ => hfront
  obtain ⟨-, -, -, ⟨-, rfl⟩ | ⟨-, -, rfl⟩ | ⟨-, -, rfl⟩ | ⟨-, -, rfl⟩ | ⟨hpower, hrun, -⟩⟩ := step_cases h
  case inl => exact .inl (SameEncoder.refl s)
  case inr.inl => exact .inl (SameEncoder.refl s)
  case inr.inr.inl => exact .inl (SameEncoder.trans hfront (preambleStart_sameEncoder _ _))
  case inr.inr.inr.inl => exact .inl (SameEncoder.trans hfront (preambleTick_sameEncoder _))
  obtain ⟨n, rfl, -⟩ | ⟨-, rfl, -⟩ | ⟨hacc, henter, hop⟩ | ⟨-, henter, -⟩ := step_run_cases h hrun hpower
  · exact .inl (hheld n)
  · exact .inl (hheld 0)
  · exact .inr ⟨_, hacc, hheld 0, atSequencer_cfg_gie_held.1, henter, hop⟩
  · exact .inl (SameEncoder.trans (hheld 0) (enter_comparator_sameEncoder henter))

/-- A timer entry runs one of the seven timer-compare operations, or it raises RESERVED_PHASE and keeps S0 to S4
(41_encoder.md R109). -/
theorem enter_timer_sameEncoder_or_decodes (h : enter .timer u = .next t) :
    SameEncoder u t ∨ ∃ i, (decode (osw .timer u)).toOption = some i ∧
      i.mnemonic ∈ ["ON", "OFF.NEXT", "OFF.END", "DELAY.WAIT", "DELAY.NEXT", "DELAY.HALT", "DELAY.FAILSAFE"] := by
  obtain ⟨-, hd, -⟩ | ⟨-, -, hd, -⟩ | ⟨-, -, hd, -⟩ | ⟨-, -, hd, -⟩ | ⟨-, -, -, hd, -⟩ | ⟨-, -, -, -, hd, -⟩ |
    ⟨-, -, -, -, -, hd, -⟩ | ⟨-, -, hn⟩ := enter_timer_cases u
  case inr.inr.inr.inr.inr.inr.inr =>
    obtain rfl := Host.Outcome.next.inj (hn.symm.trans h)
    exact .inl (SameEncoder.refl u)
  all_goals
    rw [hd]
    exact .inr ⟨_, rfl, by simp [Instr.mnemonic]⟩

/-- A timer entry keeps `LOWERING`, or it runs DELAY.FAILSAFE, which a build without the failsafe path never selects
(30_encoding.md R70, 41_encoder.md R108). -/
theorem enter_timer_lowering_kept_or_failsafe (h : enter .timer u = .next t) :
    t.lowering = u.lowering ∨
    (u.cfg.failsafeEn = true ∧ t.lowering = false ∧ t.cmd = trunc u.cfg.cmdW u.cfg.cmdUp ∧
      (decode (osw .timer u)).toOption = some (.delayFailsafe (lowBit u))) := by
  obtain ⟨-, -, hn⟩ | ⟨-, -, -, hn⟩ | ⟨-, -, -, hn⟩ | ⟨-, -, -, hn⟩ | ⟨-, -, -, -, hn⟩ | ⟨-, -, -, -, -, hn⟩ |
    ⟨-, -, -, -, hfs, hd, hn⟩ | ⟨-, -, hn⟩ := enter_timer_cases u <;>
    obtain rfl := Host.Outcome.next.inj (hn.symm.trans h)
  case inr.inr.inr.inr.inr.inr.inl => exact .inr ⟨hfs, rfl, rfl, by rw [hd]; rfl⟩
  all_goals exact .inl rfl

/-- A step keeps `LOWERING`, or it runs DELAY.FAILSAFE in a build with the failsafe path (10_state.md R25). -/
theorem step_lowering_kept_or_failsafe (h : step s = .next t) :
    t.lowering = s.lowering ∨
    (s.cfg.failsafeEn = true ∧ t.lowering = false ∧ t.cmd = trunc s.cfg.cmdW s.cfg.cmdUp ∧
      Runs s ["DELAY.FAILSAFE"]) := by
  obtain ⟨-, -, -, -, hkeep⟩ | ⟨u, -, ⟨-, -, -, -, hsame⟩, hcfg, henter, hop⟩ := sameEncoder_or_entersTimer h
  · exact .inl hkeep
  obtain hkeep | ⟨hfs, hclear, hcmd, hd⟩ := enter_timer_lowering_kept_or_failsafe henter
  · exact .inl (hkeep.trans hsame)
  · rw [hcfg] at hfs hcmd
    exact .inr ⟨hfs, hclear, hcmd, _, hop.trans hd, by simp [Instr.mnemonic]⟩

/-! ### The obligations -/

/-- Settles O37: a step that changes S0 to S4 enters an accepted timer interrupt, which needs line T armed and runs a
timer-compare operation (10_state.md R42). -/
theorem onlyTheArmedHandlerWritesTheEncoder : Obligations.OnlyTheArmedHandlerWritesTheEncoder := by
  intro s t h hchanged
  obtain hkept | ⟨u, hacc, hsame, -, henter, hop⟩ := sameEncoder_or_entersTimer h
  · exact absurd hkept hchanged
  have htie := tie_of_acceptsTimer hacc
  obtain ⟨-, hrun, -, hgie, -⟩ := hacc
  obtain hkept | ⟨i, hd, hname⟩ := enter_timer_sameEncoder_or_decodes henter
  · exact absurd (SameEncoder.trans hsame hkept) hchanged
  · exact ⟨hrun, hgie, htie, i, hop.trans hd, hname⟩

/-- Settles O39: reset and the Command Selector by definition, the step clauses from the one case of
`step_lowering_kept_or_failsafe` that writes the flag (10_state.md R25). -/
theorem loweringIsClearedOnlyByTheFailsafe : Obligations.LoweringIsClearedOnlyByTheFailsafe := by
  refine ⟨fun _ _ => rfl, fun _ => rfl, fun s t h => ?_⟩
  obtain hkeep | ⟨hfs, hclear, hcmd, hruns⟩ := step_lowering_kept_or_failsafe h
  · exact ⟨hkeep.trans, fun hset hcleared => by simp [hkeep, hset] at hcleared, fun _ => hkeep⟩
  · exact ⟨fun _ => hclear, fun _ _ => ⟨hruns, hfs, hcmd⟩, fun hno => by simp [hno] at hfs⟩

end Sys2Proof.Proofs

/-! The Bit/Frame Encoder's operations ON, OFF.NEXT and OFF.END (41_encoder.md R102 to R104): the words that encode
them, the states that select them, and each meaning as one record update whose values are already inside their widths. -/

namespace Sys2Proof.Proofs

open Sys2Proof.Machine Sys2Proof.Safety

/-! ### The low bits of a selector word (30_encoding.md R71, R72) -/

theorem packOsw_and_0x0F (b f r z : Bool) (ph : Phase) :
    packOsw b f r z ph 0 &&& 0x0F = packOsw false false false false ph 0 := by
  cases ph <;> revert b f r z <;> decide

theorem packOsw_and_0x1F (b f r z : Bool) (ph : Phase) :
    packOsw b f r z ph 0 &&& 0x1F = packOsw false false false z ph 0 := by
  cases ph <;> revert b f r z <;> decide

/-! ### The width arithmetic of the values the operations write -/

/-- A decrement as a count: it wraps from 0 only (41_encoder.md R100). -/
theorem dec_eq_ite {W v : Nat} (h : v < 2 ^ W) : dec W v = if v = 0 then 2 ^ W - 1 else v - 1 := by
  split
  case isTrue hzero => rw [hzero, dec_zero]
  case isFalse hpos => exact dec_of_pos (Nat.pos_of_ne_zero hpos) h

theorem dec_one (W : Nat) : dec W 1 = 0 := by
  rw [dec, Nat.add_sub_cancel_left, Nat.mod_self]

section Widths

variable {c : Config} (hwf : c.wf = true)
include hwf

theorem trunc_dOn (b : Bool) : trunc c.tw (dOn c b) = dOn c b := by
  obtain ⟨-, -, -, ⟨⟨-, hlong⟩, ⟨-, hshort⟩, -⟩, -⟩ := Config.wf_ranges hwf
  cases b
  · exact trunc_of_lt hshort
  · exact trunc_of_lt hlong

theorem trunc_dOff (b : Bool) : trunc c.tw (dOff c b) = dOff c b := by
  obtain ⟨-, -, -, ⟨-, -, ⟨-, hshort⟩, ⟨-, hlong⟩, -⟩, -⟩ := Config.wf_ranges hwf
  cases b
  · exact trunc_of_lt hlong
  · exact trunc_of_lt hshort

theorem trunc_tIdle : trunc c.tw c.tIdle = c.tIdle := by
  obtain ⟨-, -, -, ⟨-, -, -, -, ⟨-, hidle⟩, -⟩, -⟩ := Config.wf_ranges hwf
  exact trunc_of_lt hidle

theorem trunc_delayLen : trunc c.cntW c.delayLen = c.delayLen := by
  obtain ⟨-, -, -, -, ⟨⟨-, hdelay⟩, -⟩, -⟩ := Config.wf_ranges hwf
  exact trunc_of_lt hdelay

end Widths

variable {s : State}

theorem trunc_selCmd (hwf : s.cfg.wf = true) : trunc s.cfg.cmdW (selCmd s) = selCmd s := by
  obtain ⟨-, -, ⟨hdown, hup⟩, -⟩ := Config.wf_ranges hwf
  rw [selCmd]
  split
  · exact trunc_of_lt hdown
  · exact trunc_of_lt hup

/-! ### The states that select the operations (30_encoding.md R70, R72) -/

theorem flagZB_of_bits_eq_one (h : s.bits = 1) : flagZB s = true := by
  rw [flagZB, h, dec_one]
  rfl

/-- Of the values of its width only `BITS` = 1 reaches zero: 0 wraps (41_encoder.md R100). -/
theorem flagZB_of_bits_ne_one (hwf : s.cfg.wf = true) (hfits : Fits s) (h : s.bits ≠ 1) : flagZB s = false := by
  obtain ⟨⟨-, hcntW, -⟩, -⟩ := Config.wf_ranges hwf
  obtain ⟨-, hbits, -⟩ := hfits
  exact beq_false_of_ne (mt (dec_eq_zero_iff hcntW hbits).mp h)

theorem decode_osw_timer_of_on (h : s.phase = .on) :
    decode (osw .timer s) = .ok (.on (lowBit s) (flagFS s) (flagZR s) (flagZB s)) := by
  rw [decode_osw_timer, h]

theorem decode_osw_timer_of_off_next (h : s.phase = .off) (hzb : flagZB s = false) :
    decode (osw .timer s) = .ok (.offNext (lowBit s) (flagFS s) (flagZR s)) := by
  simp only [decode_osw_timer, h, hzb, Bool.false_eq_true, if_false]

theorem decode_osw_timer_of_off_end (h : s.phase = .off) (hzb : flagZB s = true) :
    decode (osw .timer s) = .ok (.offEnd (lowBit s) (flagFS s) (flagZR s)) := by
  simp only [decode_osw_timer, h, hzb, if_true]

/-! ### The meanings in a well-formed build: no written value is cut -/

theorem execOn_of_wf (hwf : s.cfg.wf = true) :
    execOn s = .next { s with ocr := dOn s.cfg (lowBit s), phase := .off } := by
  rw [execOn_eq, trunc_dOn hwf]

theorem execOffNext_of_wf (hwf : s.cfg.wf = true) (hfits : Fits s) :
    execOffNext s =
      .next { s with
        bits := if s.bits = 0 then 2 ^ s.cfg.cntW - 1 else s.bits - 1
        ocr := dOff s.cfg (lowBit s), cmd := shiftRight1 s.cmd, phase := .on } := by
  obtain ⟨hcmd, hbits, -⟩ := hfits
  rw [execOffNext_eq, dec_eq_ite hbits, trunc_dOff hwf, trunc_of_lt (shiftRight1_lt hcmd)]

theorem execOffEnd_of_wf (hwf : s.cfg.wf = true) :
    execOffEnd s =
      .next { s with
        cmd := selCmd s, bits := s.cfg.delayLen, toggle := false, key := false, ocr := s.cfg.tIdle
        phase := .delay } := by
  rw [execOffEnd_eq, trunc_selCmd hwf, trunc_delayLen hwf, trunc_tIdle hwf]

/-! ### The obligations -/

/-- Settles O6: phase ON alone selects ON, and neither on-duration is cut by the compare register's width
(41_encoder.md R102). -/
theorem onProgramsTheOnTime : Obligations.OnProgramsTheOnTime := by
  intro b f r z s hwf
  refine ⟨packOsw_and_0x0F b f r z .on, fun hphase => ?_, execOn_of_wf hwf⟩
  exact ⟨_, _, _, _, decode_osw_timer_of_on hphase⟩

/-- Settles O7: `BITS` ≠ 1 leaves ZB clear, which selects OFF.NEXT; the count wraps from 0 and the shifted command word
stays inside its width (41_encoder.md R100, R103). -/
theorem offNextProgramsTheOffTimeAndShifts : Obligations.OffNextProgramsTheOffTimeAndShifts := by
  intro b f r s hwf hfits
  refine ⟨packOsw_and_0x1F b f r false .off, fun hphase hbits => ?_, execOffNext_of_wf hwf hfits⟩
  exact ⟨_, _, _, decode_osw_timer_of_off_next hphase (flagZB_of_bits_ne_one hwf hfits hbits)⟩

/-- Settles O8: `BITS` = 1 sets ZB, which selects OFF.END; its count is overwritten by the delay length, so no width
hypothesis on the state is needed (41_encoder.md R104). -/
theorem offEndReloadsAndForcesThePinLow : Obligations.OffEndReloadsAndForcesThePinLow := by
  intro b f r s hwf
  refine ⟨packOsw_and_0x1F b f r true .off, fun hphase hbits => ?_, execOffEnd_of_wf hwf⟩
  exact ⟨_, _, _, decode_osw_timer_of_off_end hphase (flagZB_of_bits_eq_one hbits)⟩

end Sys2Proof.Proofs

/-! The comparator enable (60_exceptions.md R147): its two writers, and what a falling edge can reach while it is 0. The
second part runs one tick twice, with and without the edge: every sub-step of the tick carries the extra `CIF` along. -/

namespace Sys2Proof.Proofs

open Sys2Proof.Machine Sys2Proof.Safety

variable {s t u : State}

/-! ### The two writers of `CIE` -/

theorem comparatorRequest_iff (s : State) : comparatorRequest s = true ↔ s.cie = true ∧ s.cif = true := by
  rw [comparatorRequest, Bool.and_eq_true]

/-- The front sub-steps latch `CIF` whatever `CIE` is, and do not write `CIE` (60_exceptions.md R146). -/
theorem atSequencer_cie (s : State) : (atSequencer s).cie = s.cie := by
  obtain ⟨c, k, f, he, -⟩ := frontEnd_fields (nextEnv s) (consumeEnv s)
  rw [atSequencer, he]
  rfl

theorem preambleStart_cie (ctx : PreCtx) (s : State) : (preambleStart ctx s).cie = s.cie := by
  rw [preambleStart_eq]

theorem preambleTick_cie (s : State) : (preambleTick s).cie = s.cie := by
  rw [preambleTick_eq]
  split
  · split <;> rfl
  · rfl

/-- A timer entry keeps `CIE`, or it runs DELAY.FAILSAFE, which sets it (41_encoder.md R108). -/
theorem enter_timer_cie_kept_or_failsafe (h : enter .timer u = .next t) :
    t.cie = u.cie ∨
    (t.cie = true ∧ (decode (osw .timer u)).toOption = some (.delayFailsafe (lowBit u))) := by
  obtain ⟨-, -, hn⟩ | ⟨-, -, -, hn⟩ | ⟨-, -, -, hn⟩ | ⟨-, -, -, hn⟩ | ⟨-, -, -, -, hn⟩ | ⟨-, -, -, -, -, hn⟩ |
    ⟨-, -, -, -, -, hd, hn⟩ | ⟨-, -, hn⟩ := enter_timer_cases u <;>
    obtain rfl := Host.Outcome.next.inj (hn.symm.trans h)
  case inr.inr.inr.inr.inr.inr.inl => exact .inr ⟨rfl, by rw [hd]; rfl⟩
  all_goals exact .inl rfl

/-- A comparator entry clears `CIE`: the monitor disarms itself (42_power_loss.md R130). -/
theorem enter_comparator_cie (h : enter .comparator u = .next t) : t.cie = false := by
  rw [enter_comparator_next] at h
  obtain rfl := Host.Outcome.next.inj h
  rfl

/-- A step keeps `CIE`, or it runs DELAY.FAILSAFE, which sets it, or PL.FIRE, which clears it (60_exceptions.md R147). -/
theorem step_cie_kept_or_written (h : step s = .next t) :
    t.cie = s.cie ∨ (t.cie = true ∧ Runs s ["DELAY.FAILSAFE"]) ∨ (t.cie = false ∧ Runs s ["PL.FIRE"]) := by
  have hfront := atSequencer_cie s
  obtain ⟨-, -, -, ⟨-, rfl⟩ | ⟨-, -, rfl⟩ | ⟨-, -, rfl⟩ | ⟨-, -, rfl⟩ | ⟨hpower, hrun, -⟩⟩ := step_cases h
  case inl => exact .inl rfl
  case inr.inl => exact .inl rfl
  case inr.inr.inl => exact .inl ((preambleStart_cie _ _).trans hfront)
  case inr.inr.inr.inl => exact .inl ((preambleTick_cie _).trans hfront)
  obtain ⟨n, rfl, -⟩ | ⟨-, rfl, -⟩ | ⟨-, henter, hop⟩ | ⟨-, henter, hop⟩ := step_run_cases h hrun hpower
  · exact .inl hfront
  · exact .inl hfront
  · obtain hkeep | ⟨hset, hd⟩ := enter_timer_cie_kept_or_failsafe henter
    · exact .inl (hkeep.trans hfront)
    · exact .inr (.inl ⟨hset, _, hop.trans hd, by simp [Instr.mnemonic]⟩)
  · rw [decode_osw_comparator] at hop
    exact .inr (.inr ⟨enter_comparator_cie henter, _, hop, by simp [Instr.mnemonic]⟩)

/-! ### While `CIE` is 0 no sub-step of the sequencer reads `CIF` -/

theorem preambleStart_writeCif (ctx : PreCtx) (v : Bool) (s : State) :
    preambleStart ctx (writeCif v s) = writeCif v (preambleStart ctx s) := rfl

theorem preambleTick_writeCif (v : Bool) (s : State) :
    preambleTick (writeCif v s) = writeCif v (preambleTick s) := by
  rw [preambleTick_eq, preambleTick_eq, apply_ite (writeCif v), apply_ite (writeCif v)]
  rfl

/-- No operation reads or writes `CIF` (41_encoder.md R101). -/
theorem exec_writeCif {i : Instr} (v : Bool) (h : exec i u = .next t) :
    exec i (writeCif v u) = .next (writeCif v t) := by
  cases i <;> obtain rfl := Host.Outcome.next.inj h <;> rfl

/-- The selector word of a timer entry does not read `CIF` (30_encoding.md R71). -/
theorem enter_timer_writeCif (v : Bool) (h : enter .timer u = .next t) :
    enter .timer (writeCif v u) = .next (writeCif v t) := by
  have hword : osw .timer (clearPending .timer (writeCif v u)) = osw .timer (clearPending .timer u) := rfl
  simp only [enter, hword] at h ⊢
  split at h
  case h_1 => exact exec_writeCif v h
  case h_2 =>
    obtain rfl := Host.Outcome.next.inj h
    rfl
  case h_3 => cases h

theorem comparatorRequest_of_disabled (h : u.cie = false) : comparatorRequest u = false := by
  rw [comparatorRequest, h, Bool.false_and]

theorem interruptWaiting_writeCif (v : Bool) (h : u.cie = false) :
    interruptWaiting (writeCif v u) = interruptWaiting u := by
  have hkept : (writeCif v u).cie = false := h
  rw [interruptWaiting, interruptWaiting, comparatorRequest_of_disabled h, comparatorRequest_of_disabled hkept]
  rfl

/-- While line C is disabled the accept step sees the timer's request alone (60_exceptions.md R150). -/
theorem accept_of_disabled (h : u.cie = false) :
    accept u = if u.gie && timerRequest u then enter .timer u else .next u := by
  have hc := comparatorRequest_of_disabled h
  cases hg : u.gie <;> cases ht : timerRequest u <;> simp [accept, hg, ht, hc]

theorem accept_writeCif (v : Bool) (hcie : u.cie = false) (h : accept u = .next t) :
    accept (writeCif v u) = .next (writeCif v t) := by
  have hkept : (writeCif v u).cie = false := hcie
  have hcond : ((writeCif v u).gie && timerRequest (writeCif v u)) = (u.gie && timerRequest u) := rfl
  rw [accept_of_disabled hcie] at h
  rw [accept_of_disabled hkept, hcond]
  split at h
  case isTrue hreq => rw [if_pos hreq, enter_timer_writeCif v h]
  case isFalse hreq =>
    obtain rfl := Host.Outcome.next.inj h
    rw [if_neg hreq]

/-- The draw does not read `CIF`, and neither the accept step nor the count of held ticks sees it while line C is
disabled (60_exceptions.md R155; log entry 3). -/
theorem runTick_writeCif {env : Env} (v : Bool) (hcie : u.cie = false) (h : runTick env u = .next t) :
    runTick env (writeCif v u) = .next (writeCif v t) := by
  have hdraw : acceptDraw env (writeCif v u) = acceptDraw env u := rfl
  rw [runTick] at h ⊢
  rw [hdraw, interruptWaiting_writeCif v hcie]
  split at h
  case isTrue hd =>
    rw [if_pos hd]
    exact accept_writeCif (u := writeHeld 0 u) v hcie h
  case isFalse hd =>
    obtain rfl := Host.Outcome.next.inj h
    rw [if_neg hd]
    rfl

/-! ### One tick, without and with the edge -/

/-- `s` before a tick whose script entry is `e` with the edge chosen by `fall`. -/
abbrev beforeTick (fall : Bool) (e : Env) (rest : List Env) (s : State) : State :=
  { s with script := { e with fall := fall } :: rest }

/-- The edge reaches the sequencer's sub-step as `CIF` alone (60_exceptions.md R146). -/
theorem atSequencer_beforeTick (e : Env) (rest : List Env) (s : State) :
    atSequencer (beforeTick true e rest s) = writeCif true (atSequencer (beforeTick false e rest s)) := by
  simp only [atSequencer, frontEnd, nextEnv, cmpLatch, if_true, Bool.false_eq_true, if_false]
  rfl

/-- While `CIE` is 0, adding a falling edge to a tick changes only `CIF` (60_exceptions.md R147): each of the three
sequencer sub-steps carries the latched flag along unread. -/
theorem step_beforeTick_fall {e : Env} {rest : List Env} (hcie : s.cie = false) (hexec : s.execSt ≠ .reserved)
    (hpower : e.powerOff = false) (h : step (beforeTick false e rest s) = .next t) :
    step (beforeTick true e rest s) = .next (writeCif true t) := by
  have hkeeps : (nextEnv (beforeTick true e rest s)).powerOff = false := hpower
  obtain ⟨hwf, hfault, hsupply, hcases⟩ := step_cases h
  rw [step_of_ready (s := beforeTick true e rest s) hwf hfault hsupply, hkeeps, ← atSequencer, atSequencer_beforeTick]
  obtain ⟨hoff, -⟩ | ⟨-, hx, -⟩ | ⟨-, hx, rfl⟩ | ⟨-, hx, rfl⟩ | ⟨-, hx, hrun⟩ := hcases
  case inl => exact absurd (hpower.symm.trans hoff) Bool.false_ne_true
  case inr.inl => exact absurd hx hexec
  all_goals
    replace hx : s.execSt = _ := hx
    simp only [hx, Bool.false_eq_true, if_false]
  case inr.inr.inl => rw [preambleStart_writeCif]
  case inr.inr.inr.inl => rw [preambleTick_writeCif]
  case inr.inr.inr.inr => exact runTick_writeCif true ((atSequencer_cie _).trans hcie) hrun

/-! ### The obligation -/

/-- Settles O38: line C's request by definition, the two writers from `step_cie_kept_or_written`, and the edge from
`step_beforeTick_fall` (60_exceptions.md R147). -/
theorem comparatorEnableHasTwoWriters : Obligations.ComparatorEnableHasTwoWriters := by
  refine ⟨comparatorRequest_iff, fun s t h => ?_, fun s t e rest => step_beforeTick_fall⟩
  obtain hkeep | ⟨hset, hruns⟩ | ⟨hclear, hruns⟩ := step_cie_kept_or_written h
  · exact ⟨fun hoff hon => by simp [hkeep, hoff] at hon, fun hon hoff => by simp [hkeep, hon] at hoff⟩
  · exact ⟨fun _ _ => hruns, fun _ hoff => by simp [hset] at hoff⟩
  · exact ⟨fun _ hon => by simp [hclear] at hon, fun _ _ => hruns⟩

end Sys2Proof.Proofs

/-! The selector word (30_encoding.md R70 to R73): every word is the word of its six fields, so that `decode` and `encode`
are inverse to each other and the rows and the reserved regions are read off the fields. -/

namespace Sys2Proof.Proofs

open Sys2Proof.Machine Sys2Proof.Safety

/-! ### Every word is the word of its fields -/

/-- The fields of a selector word give the word back (30_encoding.md R70, R71). -/
theorem packOsw_fields (w : Osw) :
    packOsw (oswB w) (oswF w) (oswR w) (oswZ w) (oswPh w) (w.extractLsb' 0 2) = w := by
  revert w
  decide

theorem exists_eq_packOsw (w : Osw) : ∃ b f r z ph src, w = packOsw b f r z ph src :=
  ⟨_, _, _, _, _, _, (packOsw_fields w).symm⟩

/-- The four values of the field `SRC` (30_encoding.md R70). -/
theorem source_cases (src : BitVec 2) : src = 0 ∨ src = 1 ∨ src = 2 ∨ src = 3 := by
  revert src
  decide

/-- The field `SRC` is the low two bits (30_encoding.md R70). -/
theorem packOsw_and_0x03 (b f r z : Bool) (ph : Phase) (src : BitVec 2) :
    packOsw b f r z ph src &&& 0x03 = packOsw false false false false .on src := by
  cases ph <;> revert b f r z src <;> decide

/-- The fields `PH` and `SRC` are the low four bits (30_encoding.md R70). -/
theorem packOsw_and_phase (b f r z : Bool) (ph : Phase) (src : BitVec 2) :
    packOsw b f r z ph src &&& 0x0F = packOsw false false false false ph src := by
  cases ph <;> revert b f r z src <;> decide

/-- A selector word with `SRC` = 11 (30_encoding.md R73). -/
theorem decode_invalid (b f r z : Bool) (ph : Phase) :
    decode (packOsw b f r z ph 3) = .error .invalidSource := by
  cases ph <;> cases b <;> cases f <;> cases r <;> cases z <;> rfl

/-! ### Decoding and encoding are inverse to each other -/

theorem decode_encode (i : Instr) : decode (encode i) = .ok i := by
  cases i with
  | on b f r z => exact Laws.RoundTrip.on b f r z
  | offNext b f r => exact Laws.RoundTrip.offNext b f r
  | offEnd b f r => exact Laws.RoundTrip.offEnd b f r
  | delayWait b f r => exact Laws.RoundTrip.delayWait b f r
  | delayNext b f => exact Laws.RoundTrip.delayNext b f
  | delayHalt b => exact Laws.RoundTrip.delayHalt b
  | delayFailsafe b => exact Laws.RoundTrip.delayFailsafe b
  | plFire b f r z ph => exact Laws.RoundTrip.plFire b f r z ph
  | boot b f r z ph => exact Laws.RoundTrip.boot b f r z ph

/-- A timer word is the encoding of its operation, unless its phase is the reserved one (30_encoding.md R72). -/
theorem timerWord_eq_encode (b f r z : Bool) (ph : Phase) :
    ph = .reserved ∨ ∃ i, packOsw b f r z ph 0 = encode i := by
  cases ph
  case on => exact .inr ⟨.on b f r z, rfl⟩
  case off =>
    cases z
    · exact .inr ⟨.offNext b f r, rfl⟩
    · exact .inr ⟨.offEnd b f r, rfl⟩
  case delay =>
    cases z
    · exact .inr ⟨.delayWait b f r, rfl⟩
    cases r
    · exact .inr ⟨.delayNext b f, rfl⟩
    cases f
    · exact .inr ⟨.delayHalt b, rfl⟩
    · exact .inr ⟨.delayFailsafe b, rfl⟩
  case reserved => exact .inl rfl

/-- Every word is in one of the two reserved regions or is the encoding of an instruction (30_encoding.md R72, R73). -/
theorem word_cases (w : Osw) :
    (w &&& 0x0F = 0x0C ∧ w &&& 0x03 = 0x00 ∧ decode w = .error .reservedPhase) ∨
    (w &&& 0x0F ≠ 0x0C ∧ w &&& 0x03 = 0x03 ∧ decode w = .error .invalidSource) ∨
    (w &&& 0x0F ≠ 0x0C ∧ w &&& 0x03 ≠ 0x03 ∧ ∃ i, w = encode i) := by
  obtain ⟨b, f, r, z, ph, src, rfl⟩ := exists_eq_packOsw w
  rw [packOsw_and_0x03, packOsw_and_phase]
  obtain rfl | rfl | rfl | rfl := source_cases src
  · obtain rfl | ⟨i, hi⟩ := timerWord_eq_encode b f r z ph
    · exact .inl ⟨rfl, rfl, decode_timer b f r z .reserved⟩
    · refine .inr (.inr ⟨?_, by decide, i, hi⟩)
      cases ph
      case reserved => 
        have := decode_encode i
        rw [← hi, decode_timer] at this
        cases this
      all_goals decide
  · exact .inr (.inr ⟨by cases ph <;> decide, by decide, .plFire b f r z ph, rfl⟩)
  · exact .inr (.inr ⟨by cases ph <;> decide, by decide, .boot b f r z ph, rfl⟩)
  · exact .inr (.inl ⟨by cases ph <;> decide, rfl, decode_invalid b f r z ph⟩)

theorem encode_of_decode {w : Osw} {i : Instr} (h : decode w = .ok i) : encode i = w := by
  obtain ⟨-, -, he⟩ | ⟨-, -, he⟩ | ⟨-, -, j, rfl⟩ := word_cases w
  · cases he.symm.trans h
  · cases he.symm.trans h
  · rw [decode_encode] at h
    cases h
    rfl

theorem decode_eq_ok_iff {w : Osw} {i : Instr} : decode w = .ok i ↔ w = encode i :=
  ⟨fun h => (encode_of_decode h).symm, fun h => h ▸ decode_encode i⟩

/-! ### The rows of the opcode map -/

/-- The words with a given `SRC`, the other fields free, are those with these low two bits (30_encoding.md R72). -/
theorem exists_packOsw_iff (w : Osw) (src : BitVec 2) :
    (∃ b f r z ph, w = packOsw b f r z ph src) ↔ w &&& 0x03 = packOsw false false false false .on src := by
  constructor
  · rintro ⟨b, f, r, z, ph, rfl⟩
    exact packOsw_and_0x03 b f r z ph src
  · intro h
    obtain ⟨b, f, r, z, ph, src', rfl⟩ := exists_eq_packOsw w
    rw [packOsw_and_0x03] at h
    have hsrc : src' = src := by
      revert src src'
      decide
    exact ⟨b, f, r, z, ph, hsrc ▸ rfl⟩

/-- Settles O1: one lemma per constructor (Laws/PerInstr.lean). -/
theorem decodeOfEncodeIsTheInstruction : Obligations.DecodeOfEncodeIsTheInstruction := decode_encode

/-- Settles O2: a word that decodes is in none of the two reserved regions, so it is an encoding (30_encoding.md R72). -/
theorem encodeOfDecodeIsTheWord : Obligations.EncodeOfDecodeIsTheWord := fun _ _ => encode_of_decode

/-- Settles O3: the three cases of `word_cases` exclude each other (30_encoding.md R73). -/
theorem reservedWordsAreTheOnlyOnesRejected : Obligations.ReservedWordsAreTheOnlyOnesRejected := by
  intro w
  obtain ⟨hph, hsrc, he⟩ | ⟨hph, hsrc, he⟩ | ⟨hph, hsrc, i, rfl⟩ := word_cases w
  · exact ⟨iff_of_true he hph, iff_of_false (by rw [he]; nofun) (by rw [hsrc]; decide), fun h => absurd hph h⟩
  · exact ⟨iff_of_false (by rw [he]; nofun) hph, iff_of_true he hsrc, fun _ h => absurd hsrc h⟩
  · have hd := decode_encode i
    exact ⟨iff_of_false (by rw [hd]; nofun) hph, iff_of_false (by rw [hd]; nofun) hsrc, fun _ _ => ⟨i, hd⟩⟩

/-- Settles O4: a word decodes to an instruction exactly if it is its encoding, and the words of a row are those its mask
and match give (30_encoding.md R72). -/
theorem eachRowSelectsItsOperation : Obligations.EachRowSelectsItsOperation := by
  intro w
  simp only [decode_eq_ok_iff, encode]
  refine ⟨?_, ?_, ?_, ?_, ?_, ?_, ?_, exists_packOsw_iff w 1, exists_packOsw_iff w 2⟩
  all_goals
    revert w
    decide

/-- Settles O5: each word is the encoding of its operation. -/
theorem vectorWordsDecode : Obligations.VectorWordsDecode :=
  ⟨decode_encode (.on true false true false), decode_encode (.offNext false false true),
    decode_encode (.offEnd true false true), decode_encode (.delayWait false true true),
    decode_encode (.delayNext true true), decode_encode (.delayHalt true), decode_encode (.delayFailsafe true),
    decode_encode (.plFire false false true true .delay), decode_encode (.boot true false true false .on)⟩

/-! ### The operation a step runs -/

variable {s : State} {i : Instr}

theorem toOption_eq_some_iff {w : Osw} : (decode w).toOption = some i ↔ decode w = .ok i := by
  cases decode w <;> simp [Except.toOption]

/-- The three ways a step comes to an operation: out of reset, or at an accepted interrupt (60_exceptions.md R160). -/
theorem stepOp_cases (h : stepOp s = some i) :
    (Ready s ∧ s.execSt = .reset ∧ decode (osw .reset (atSequencer s)) = .ok i) ∨
    (AcceptsTimer s ∧ decode (osw .timer (atSequencer s)) = .ok i) ∨
    (AcceptsComparator s ∧ decode (osw .comparator (atSequencer s)) = .ok i) := by
  have hgie := (atSequencer_cfg_gie_held (s := s)).2.1
  rw [stepOp] at h
  split at h
  case isFalse => cases h
  case isTrue hready =>
    simp only [Bool.and_eq_true, Bool.not_eq_true', faultSet_isEmpty_iff] at hready
    obtain ⟨⟨⟨hwf, hfault⟩, hpower⟩, hholds⟩ := hready
    have hready : Ready s := ⟨hwf, hfault, hpower, hholds⟩
    split at h
    case h_1 hx => exact .inl ⟨hready, hx, toOption_eq_some_iff.mp h⟩
    case h_2 hx =>
      rw [acceptedOp, hgie] at h
      split at h
      case isFalse => cases h
      case isTrue hacc =>
        obtain ⟨hdraw, hg⟩ := Bool.and_eq_true_iff.mp hacc
        split at h
        case h_1 ht hc => exact .inr (.inl ⟨⟨hready, hx, hdraw, hg, ht, hc⟩, toOption_eq_some_iff.mp h⟩)
        case h_2 ht hc => exact .inr (.inr ⟨⟨hready, hx, hdraw, hg, ht, hc⟩, toOption_eq_some_iff.mp h⟩)
        case h_3 => cases h
    case h_3 => cases h
    case h_4 => cases h

theorem oswF_packOsw (b f r z : Bool) (ph : Phase) (src : BitVec 2) : oswF (packOsw b f r z ph src) = f := by
  cases ph <;> revert b f r z src <;> decide

/-- The FS field an instruction carries is that of its word (30_encoding.md R70). -/
theorem oswF_encode (i : Instr) : oswF (encode i) = i.fsBit := by
  cases i <;> exact oswF_packOsw ..

/-- A word formed from a state is the word of an instruction the state's build can form (30_encoding.md R70). -/
theorem wf_of_decode_osw {src : Src} (h : decode (osw src s) = .ok i) : i.wf s.cfg = true := by
  have hfs : i.fsBit = flagFS s := by
    rw [← oswF_encode, encode_of_decode h, osw, oswF_packOsw]
  rw [Instr.wf, hfs, flagFS]
  cases s.cfg.failsafeEn <;> simp

/-- Settles O16: every operation of a step decodes from a word formed from a state of the same build (30_encoding.md
R70). -/
theorem onlyFormableOperationsRun : Obligations.OnlyFormableOperationsRun := by
  intro s i h
  rw [← (atSequencer_cfg_gie_held (s := s)).1]
  obtain ⟨-, -, hd⟩ | ⟨-, hd⟩ | ⟨-, hd⟩ := stepOp_cases h <;> exact wf_of_decode_osw hd

end Sys2Proof.Proofs

/-! The operations of the inter-frame delay, the monitor's and the startup operation (41_encoder.md R105 to R108,
42_power_loss.md R130, 70_reset_and_hazards.md R184): the states that select them, and each meaning as one record update
whose values are already inside their widths. -/

namespace Sys2Proof.Proofs

open Sys2Proof.Machine Sys2Proof.Safety

variable {s : State}

/-! ### The words that encode them (30_encoding.md R72) -/

theorem packOsw_and_0x3F (b f r z : Bool) (ph : Phase) :
    packOsw b f r z ph 0 &&& 0x3F = packOsw false false r z ph 0 := by
  cases ph <;> revert b f r z <;> decide

theorem packOsw_and_0x7F (b f r z : Bool) (ph : Phase) :
    packOsw b f r z ph 0 &&& 0x7F = packOsw false f r z ph 0 := by
  cases ph <;> revert b f r z <;> decide

/-! ### The states that select them -/

theorem flagZR_of_repeats_eq_one (h : s.repeats = 1) : flagZR s = true := by
  rw [flagZR, h, dec_one]
  rfl

/-- Of the values of its width only `REPEAT` = 1 reaches zero: 0 wraps (41_encoder.md R100). -/
theorem flagZR_of_repeats_ne_one (hwf : s.cfg.wf = true) (hfits : Fits s) (h : s.repeats ≠ 1) : flagZR s = false := by
  obtain ⟨⟨-, -, hrptW, -⟩, -⟩ := Config.wf_ranges hwf
  obtain ⟨-, -, hrepeats, -⟩ := hfits
  exact beq_false_of_ne (mt (dec_eq_zero_iff hrptW hrepeats).mp h)

theorem decode_osw_timer_of_delay_wait (h : s.phase = .delay) (hzb : flagZB s = false) :
    decode (osw .timer s) = .ok (.delayWait (lowBit s) (flagFS s) (flagZR s)) := by
  simp only [decode_osw_timer, h, hzb, Bool.false_eq_true, if_false]

theorem decode_osw_timer_of_delay_next (h : s.phase = .delay) (hzb : flagZB s = true) (hzr : flagZR s = false) :
    decode (osw .timer s) = .ok (.delayNext (lowBit s) (flagFS s)) := by
  simp only [decode_osw_timer, h, hzb, hzr, if_true, Bool.false_eq_true, if_false]

theorem decode_osw_timer_of_delay_last (h : s.phase = .delay) (hzb : flagZB s = true) (hzr : flagZR s = true) :
    decode (osw .timer s) = if flagFS s then .ok (.delayFailsafe (lowBit s)) else .ok (.delayHalt (lowBit s)) := by
  simp only [decode_osw_timer, h, hzb, hzr, if_true]

/-! ### The meanings in a well-formed build: no written value is cut -/

section Widths

variable {c : Config} (hwf : c.wf = true)
include hwf

theorem trunc_frameLen : trunc c.cntW c.frameLen = c.frameLen := by
  obtain ⟨-, ⟨-, -, hlen⟩, -⟩ := Config.wf_ranges hwf
  exact trunc_of_lt hlen

theorem trunc_cmdUp : trunc c.cmdW c.cmdUp = c.cmdUp := by
  obtain ⟨-, -, ⟨-, hup⟩, -⟩ := Config.wf_ranges hwf
  exact trunc_of_lt hup

theorem trunc_repeatFailsafe : trunc c.rptW c.repeatFailsafe = c.repeatFailsafe := by
  obtain ⟨-, -, -, -, ⟨-, -, -, hrepeat⟩, -⟩ := Config.wf_ranges hwf
  exact trunc_of_lt hrepeat

theorem trunc_initDelay : trunc c.tw c.initDelay = c.initDelay := by
  obtain ⟨-, -, -, ⟨-, -, -, -, -, -, hdelay⟩, -⟩ := Config.wf_ranges hwf
  exact trunc_of_lt hdelay

theorem preTime_range (i : BitVec 2) : 1 ≤ preTime c i ∧ preTime c i < 2 ^ c.pw := by
  obtain ⟨-, -, -, -, -, hpre0, hpre1, hpre2, hpre3⟩ := Config.wf_ranges hwf
  rw [preTime]
  split
  · exact hpre0
  · exact hpre1
  · exact hpre2
  · exact hpre3

theorem trunc_preTime (i : BitVec 2) : trunc c.pw (preTime c i) = preTime c i :=
  trunc_of_lt (preTime_range hwf i).2

end Widths

theorem trunc_preT0 {c : Config} (hwf : c.wf = true) : trunc c.pw c.preT0 = c.preT0 := trunc_preTime hwf 0

/-! ### The obligations -/

/-- Settles O9: `BITS` ≠ 1 leaves ZB clear, which selects DELAY.WAIT; the count wraps from 0 (41_encoder.md R105). -/
theorem delayWaitCountsOneIdleTick : Obligations.DelayWaitCountsOneIdleTick := by
  intro b f r s hwf hfits
  refine ⟨packOsw_and_0x1F b f r false .delay, fun hphase hbits => ?_, ?_⟩
  · exact ⟨_, _, _, decode_osw_timer_of_delay_wait hphase (flagZB_of_bits_ne_one hwf hfits hbits)⟩
  · obtain ⟨-, hbits, -⟩ := hfits
    rw [← dec_eq_ite hbits]
    exact execDelayWait_eq s

/-- Settles O10: `BITS` = 1 sets ZB and `REPEAT` ≠ 1 leaves ZR clear, which selects DELAY.NEXT; the loaded frame length
fits its counter (41_encoder.md R106). -/
theorem delayNextStartsTheNextFrame : Obligations.DelayNextStartsTheNextFrame := by
  intro b f s hwf hfits
  refine ⟨packOsw_and_0x3F b f false true .delay, fun hphase hbits hrepeats => ?_, ?_⟩
  · exact ⟨_, _, decode_osw_timer_of_delay_next hphase (flagZB_of_bits_eq_one hbits)
      (flagZR_of_repeats_ne_one hwf hfits hrepeats)⟩
  · obtain ⟨-, -, hrepeats, -⟩ := hfits
    rw [← dec_eq_ite hrepeats]
    exact (execDelayNext_eq s).trans (by rw [trunc_frameLen hwf])

/-- Settles O11: at the end of a burst, ZB and ZR set, a clear FS selects DELAY.HALT (41_encoder.md R107). -/
theorem delayHaltDisarmsTheTimer : Obligations.DelayHaltDisarmsTheTimer := by
  intro b s hwf hfits
  refine ⟨packOsw_and_0x7F b false true true .delay, fun hphase hbits hrepeats hfs => ?_, ?_⟩
  · have hclear : ¬ flagFS s = true := by rwa [flagFS, Bool.and_eq_true]
    exact ⟨_, (decode_osw_timer_of_delay_last hphase (flagZB_of_bits_eq_one hbits)
      (flagZR_of_repeats_eq_one hrepeats)).trans (if_neg hclear)⟩
  · obtain ⟨-, -, hrepeats, -⟩ := hfits
    rw [← dec_eq_ite hrepeats]
    exact (execDelayHalt_eq s).trans (by rw [trunc_frameLen hwf])

/-- Settles O12: at the end of the down burst of a build with the failsafe path FS is set, which selects DELAY.FAILSAFE;
its counts are overwritten, so no width hypothesis on the state is needed (41_encoder.md R108). -/
theorem delayFailsafeArmsTheMonitor : Obligations.DelayFailsafeArmsTheMonitor := by
  intro b s hwf
  refine ⟨packOsw_and_0x7F b true true true .delay, fun hphase hbits hrepeats hlowering hfailsafe => ?_, ?_⟩
  · have hset : flagFS s = true := by rw [flagFS, hlowering, hfailsafe, Bool.and_self]
    exact ⟨_, (decode_osw_timer_of_delay_last hphase (flagZB_of_bits_eq_one hbits)
      (flagZR_of_repeats_eq_one hrepeats)).trans (if_pos hset)⟩
  · exact (execDelayFailsafe_eq s).trans (by rw [trunc_frameLen hwf, trunc_cmdUp hwf, trunc_repeatFailsafe hwf])

/-- Settles O13: every word with `SRC` = 01 selects PL.FIRE, and the first hold fits its counter (42_power_loss.md
R130). -/
theorem plFireDisarmsAndStartsThePreamble : Obligations.PlFireDisarmsAndStartsThePreamble := by
  intro b f r z ph s hwf
  refine ⟨packOsw_and_0x03 b f r z ph 1, ⟨_, _, _, _, _, decode_osw_comparator s⟩, ?_⟩
  exact (execPlFire_eq s).trans (by rw [trunc_preT0 hwf])

/-- Settles O14: every word with `SRC` = 10 selects BOOT (70_reset_and_hazards.md R184). -/
theorem bootStartsThePreamble : Obligations.BootStartsThePreamble := by
  intro b f r z ph s hwf
  refine ⟨packOsw_and_0x03 b f r z ph 2, ⟨_, _, _, _, _, decode_osw_reset s⟩, ?_⟩
  exact (execBoot_eq s).trans (by rw [trunc_preT0 hwf])

end Sys2Proof.Proofs

/-! One step of the block (60_exceptions.md R160): the two front sub-steps as one record update, everything a step that
answers a next state can do as a list of named cases, and what the step does where the state decides it. -/

namespace Sys2Proof.Proofs

open Sys2Proof.Machine Sys2Proof.Safety

variable {s t u : State} {i : Instr}

/-! ### The timer and the latch -/

theorem timerTick_tcnt (s : State) :
    (timerTick s).tcnt = if inc s.cfg.tw s.tcnt = s.ocr then 0 else inc s.cfg.tw s.tcnt := by
  rw [timerTick_eq]
  split <;> rfl

theorem timerTick_key (s : State) :
    (timerTick s).key = if inc s.cfg.tw s.tcnt = s.ocr ∧ s.toggle = true then !s.key else s.key := by
  rw [timerTick_eq]
  by_cases hmatch : inc s.cfg.tw s.tcnt = s.ocr <;> simp [hmatch]

theorem timerTick_tif (s : State) : (timerTick s).tif = (s.tif || decide (inc s.cfg.tw s.tcnt = s.ocr)) := by
  rw [timerTick_eq]
  by_cases hmatch : inc s.cfg.tw s.tcnt = s.ocr <;> simp [hmatch]

theorem timerTick_tcnt_lt (s : State) : (timerTick s).tcnt < 2 ^ s.cfg.tw := by
  rw [timerTick_tcnt]
  split
  · exact Nat.two_pow_pos _
  · exact inc_lt _ _

/-- Without the toggle mode no match moves the pin (60_exceptions.md R141). -/
theorem timerTick_key_of_toggle_off (h : s.toggle = false) : (timerTick s).key = s.key := by
  rw [timerTick_key, h]
  simp

/-- `atSequencer` as one record update: the front sub-steps write four elements, and the script moves on
(60_exceptions.md R160). -/
def afterFront (s : State) : State :=
  { s with
    script := s.script.tail, tcnt := (timerTick s).tcnt, key := (timerTick s).key, tif := (timerTick s).tif
    cif := s.cif || (nextEnv s).fall }

theorem atSequencer_eq (s : State) : atSequencer s = afterFront s := by
  by_cases hmatch : inc s.cfg.tw s.tcnt = s.ocr
  · rw [atSequencer, frontEnd_of_match (consumeEnv s) (nextEnv s) hmatch, afterFront, timerTick_eq, if_pos hmatch]
    rfl
  · rw [atSequencer, frontEnd_of_no_match (consumeEnv s) (nextEnv s) hmatch, afterFront, timerTick_eq, if_neg hmatch]
    rfl

/-! ### A step where the state decides it -/

theorem step_of_reset (hr : Ready s) (hx : s.execSt = .reset) :
    step s = .next (preambleStart .boot (atSequencer s)) := by
  obtain ⟨hwf, hfault, hpower, hholds⟩ := hr
  simp only [step_of_ready hwf hfault hpower, hholds, hx, Bool.false_eq_true, if_false]

theorem step_of_preamble (hr : Ready s) (hx : s.execSt = .preamble) :
    step s = .next (preambleTick (atSequencer s)) := by
  obtain ⟨hwf, hfault, hpower, hholds⟩ := hr
  simp only [step_of_ready hwf hfault hpower, hholds, hx, Bool.false_eq_true, if_false]

theorem step_of_run (hr : Ready s) (hx : s.execSt = .run) : step s = runTick (nextEnv s) (atSequencer s) := by
  obtain ⟨hwf, hfault, hpower, hholds⟩ := hr
  simp only [step_of_ready hwf hfault hpower, hholds, hx, Bool.false_eq_true, if_false]

theorem runTick_of_draw {env : Env} (h : acceptDraw env u = true) :
    runTick env u = accept { u with held := 0 } := by
  rw [runTick, if_pos h]
  rfl

theorem accept_of_timer (hg : u.gie = true) (ht : timerRequest u = true) (hc : comparatorRequest u = false) :
    accept u = enter .timer u := by
  simp [accept, hg, ht, hc]

theorem accept_of_comparator (hg : u.gie = true) (ht : timerRequest u = false) (hc : comparatorRequest u = true) :
    accept u = enter .comparator u := by
  simp [accept, hg, ht, hc]

theorem accept_of_both (hg : u.gie = true) (ht : timerRequest u = true) (hc : comparatorRequest u = true) :
    accept u = .next (raiseFault .bothArmed u) := by
  simp [accept, hg, ht, hc]

/-- With no interrupt waiting the accept step does nothing (60_exceptions.md R150). -/
theorem accept_of_not_waiting (h : interruptWaiting u = false) : accept u = .next u := by
  rw [interruptWaiting, Bool.and_eq_false_iff, Bool.or_eq_false_iff] at h
  obtain hg | ⟨ht, hc⟩ := h
  · simp [accept, hg]
  · simp [accept, ht, hc]

/-- The step of an accepted timer interrupt (60_exceptions.md R150, R151). -/
theorem step_of_acceptsTimer (h : AcceptsTimer s) : step s = enter .timer { atSequencer s with held := 0 } := by
  obtain ⟨hr, hx, hdraw, hgie, ht, hc⟩ := h
  have hgie' : (atSequencer s).gie = true := atSequencer_cfg_gie_held.2.1.trans hgie
  rw [step_of_run hr hx, runTick_of_draw hdraw]
  exact accept_of_timer hgie' ht hc

/-- The step of an accepted comparator interrupt (60_exceptions.md R150, R151). -/
theorem step_of_acceptsComparator (h : AcceptsComparator s) :
    step s = enter .comparator { atSequencer s with held := 0 } := by
  obtain ⟨hr, hx, hdraw, hgie, ht, hc⟩ := h
  have hgie' : (atSequencer s).gie = true := atSequencer_cfg_gie_held.2.1.trans hgie
  rw [step_of_run hr hx, runTick_of_draw hdraw]
  exact accept_of_comparator hgie' ht hc

/-- The entry of an operation runs what its selector word decodes to (60_exceptions.md R151): clearing the accepted flag
does not change the word. -/
theorem enter_of_decode {src : Src} (h : decode (osw src u) = .ok i) : enter src u = exec i (clearPending src u) := by
  have hword : osw src (clearPending src u) = osw src u := by cases src <;> rfl
  simp only [enter, hword, h]

/-! ### The obligations on one step -/

/-- Settles O15: the three entries each run `exec` of what the word decodes to (60_exceptions.md R151, R160). -/
theorem stepRunsTheDecodedOperation : Obligations.StepRunsTheDecodedOperation := by
  intro s i hr
  have hgie' := (atSequencer_cfg_gie_held (s := s)).2.1
  refine ⟨fun hx hd => ?_, fun hx hdraw hgie ht hc hd => ?_, fun hx hdraw hgie ht hc hd => ?_⟩
  · rw [step_of_reset hr hx]
    exact (enter_reset_eq _).symm.trans (enter_of_decode hd)
  · rw [step_of_acceptsTimer ⟨hr, hx, hdraw, hgie'.symm.trans hgie, ht, hc⟩]
    exact enter_of_decode (u := { atSequencer s with held := 0 }) hd
  · rw [step_of_acceptsComparator ⟨hr, hx, hdraw, hgie'.symm.trans hgie, ht, hc⟩]
    exact enter_of_decode (u := { atSequencer s with held := 0 }) hd

/-- Settles O17: the configuration is checked before the tick (00_scope.md R7). -/
theorem illFormedConfigurationIsRefused : Obligations.IllFormedConfigurationIsRefused := by
  intro s h
  simp [step, h]

/-- Settles O18: a recorded fault, then a missing supply, stops the tick before any sub-step (60_exceptions.md R160). -/
theorem quiescentBlockTakesNoStep : Obligations.QuiescentBlockTakesNoStep := by
  intro s hwf
  refine ⟨fun hfault => ?_, fun hfault hpower => ?_⟩
  · have hne : s.fault.isEmpty = false := by
      rw [← Bool.not_eq_true, faultSet_isEmpty_iff]
      exact hfault
    simp [step, hwf, tick, consumeEnv, hne]
  · have he : s.fault.isEmpty = true := (faultSet_isEmpty_iff s.fault).mpr hfault
    simp [step, hwf, tick, consumeEnv, he, hpower]

/-- Settles O19: the collapse is the first case of a ready block's tick (60_exceptions.md R161). -/
theorem powerCollapseStopsTheTick : Obligations.PowerCollapseStopsTheTick := by
  intro s hwf hfault hpower hoff
  rw [step_of_ready hwf hfault hpower, if_pos hoff]
  rfl

/-- Settles O20: the reserved `EXEC` is found before the front sub-steps, the two others at the accept step and on entry
of the timer operation (60_exceptions.md R166, 41_encoder.md R109). -/
theorem modelFaultsAreRecorded : Obligations.ModelFaultsAreRecorded := by
  intro s hr
  have hfault := hr.2.1
  have hfault' : (atSequencer s).fault = .empty := by rw [atSequencer_eq, afterFront, hfault]
  refine ⟨fun hx => ?_, fun hx hdraw hgie ht hc => ?_, fun hx hdraw hgie ht hc hphase => ?_⟩
  · obtain ⟨hwf, -, hpower, hholds⟩ := hr
    simp only [step_of_ready hwf hfault hpower, hholds, hx, Bool.false_eq_true, if_false, raiseFault, consumeEnv,
      writeScript, hfault]
    rfl
  · have hgie' : (atSequencer s).gie = true := atSequencer_cfg_gie_held.2.1.trans hgie
    rw [step_of_run hr hx, runTick_of_draw hdraw, accept_of_both (u := { atSequencer s with held := 0 }) hgie' ht hc,
      raiseFault, hfault']
    rfl
  · have hphase' : (atSequencer s).phase = .reserved := by rw [atSequencer_eq, afterFront, hphase]
    rw [step_of_acceptsTimer ⟨hr, hx, hdraw, hgie, ht, hc⟩, enter_timer_eq, hphase']
    simp only [raiseFault, writeTif, hfault']
    rfl

/-- A RUN tick without a waiting interrupt is the front sub-steps alone (60_exceptions.md R150). -/
theorem step_of_not_waiting (hr : Ready s) (hx : s.execSt = .run) (h : interruptWaiting (atSequencer s) = false) :
    step s = .next { atSequencer s with held := 0 } := by
  rw [step_of_run hr hx, runTick]
  split
  · exact accept_of_not_waiting (u := { atSequencer s with held := 0 }) h
  · rw [h]
    rfl

/-- Settles O21: whether or not the draw is true, nothing is accepted (60_exceptions.md R150). -/
theorem nothingIsAcceptedUnlessPendingAndEnabled : Obligations.NothingIsAcceptedUnlessPendingAndEnabled :=
  fun _ => step_of_not_waiting

/-- Settles O22: the draw is the script's below the bound and true at the bound (60_exceptions.md R155). -/
theorem waitingInterruptIsHeldAtMostLatMaxTicks : Obligations.WaitingInterruptIsHeldAtMostLatMaxTicks := by
  intro s hr hx hwaiting
  obtain ⟨hcfg, -, hheld⟩ := atSequencer_cfg_gie_held (s := s)
  refine ⟨fun haccept hlt => ?_, fun hle => ?_⟩
  · have hdraw : acceptDraw (nextEnv s) (atSequencer s) = false := by
      simpa [acceptDraw, haccept, hcfg, hheld] using hlt
    rw [step_of_run hr hx, runTick, hdraw, hwaiting, ← hheld]
    rfl
  · have hdraw : acceptDraw (nextEnv s) (atSequencer s) = true := by simp [acceptDraw, hcfg, hheld, hle]
    rw [step_of_run hr hx, runTick_of_draw hdraw]

end Sys2Proof.Proofs

/-! Everything a step can do, as a list of named cases, and what follows for the elements of the state: their widths, the
configuration, the writers of each element (10_state.md R20), and the pending flags (R29, R31). -/

namespace Sys2Proof.Proofs

open Sys2Proof.Machine Sys2Proof.Safety

variable {s t u : State}

/-! ### The cases of a step -/

/-- What a timer entry can do, by the operation its selector word decodes to (41_encoder.md R102 to R109). -/
inductive TimerEntry (u : State) : State → Prop
  | on (hphase : u.phase = .on)
      (hop : decode (osw .timer u) = .ok (.on (lowBit u) (flagFS u) (flagZR u) (flagZB u))) :
      TimerEntry u { u with tif := false, ocr := trunc u.cfg.tw (dOn u.cfg (lowBit u)), phase := .off }
  | offNext (hphase : u.phase = .off) (hbits : dec u.cfg.cntW u.bits ≠ 0)
      (hop : decode (osw .timer u) = .ok (.offNext (lowBit u) (flagFS u) (flagZR u))) :
      TimerEntry u { u with
        tif := false, bits := dec u.cfg.cntW u.bits, ocr := trunc u.cfg.tw (dOff u.cfg (lowBit u))
        cmd := trunc u.cfg.cmdW (shiftRight1 u.cmd), phase := .on }
  | offEnd (hphase : u.phase = .off) (hbits : dec u.cfg.cntW u.bits = 0)
      (hop : decode (osw .timer u) = .ok (.offEnd (lowBit u) (flagFS u) (flagZR u))) :
      TimerEntry u { u with
        tif := false, cmd := trunc u.cfg.cmdW (selCmd u), bits := trunc u.cfg.cntW u.cfg.delayLen
        toggle := false, key := false, ocr := trunc u.cfg.tw u.cfg.tIdle, phase := .delay }
  | delayWait (hphase : u.phase = .delay) (hbits : dec u.cfg.cntW u.bits ≠ 0)
      (hop : decode (osw .timer u) = .ok (.delayWait (lowBit u) (flagFS u) (flagZR u))) :
      TimerEntry u { u with tif := false, bits := dec u.cfg.cntW u.bits }
  | delayNext (hphase : u.phase = .delay) (hbits : dec u.cfg.cntW u.bits = 0)
      (hrepeats : dec u.cfg.rptW u.repeats ≠ 0)
      (hop : decode (osw .timer u) = .ok (.delayNext (lowBit u) (flagFS u))) :
      TimerEntry u { u with
        tif := false, repeats := dec u.cfg.rptW u.repeats, bits := trunc u.cfg.cntW u.cfg.frameLen, phase := .on
        toggle := true }
  | delayHalt (hphase : u.phase = .delay) (hbits : dec u.cfg.cntW u.bits = 0)
      (hrepeats : dec u.cfg.rptW u.repeats = 0) (hfs : (u.lowering && u.cfg.failsafeEn) = false)
      (hop : decode (osw .timer u) = .ok (.delayHalt (lowBit u))) :
      TimerEntry u { u with
        tif := false, repeats := dec u.cfg.rptW u.repeats, bits := trunc u.cfg.cntW u.cfg.frameLen, phase := .on
        tie := false }
  | delayFailsafe (hphase : u.phase = .delay) (hbits : dec u.cfg.cntW u.bits = 0)
      (hrepeats : dec u.cfg.rptW u.repeats = 0) (hlowering : u.lowering = true) (hfs : u.cfg.failsafeEn = true)
      (hop : decode (osw .timer u) = .ok (.delayFailsafe (lowBit u))) :
      TimerEntry u { u with
        tif := false, bits := trunc u.cfg.cntW u.cfg.frameLen, phase := .on, lowering := false
        cmd := trunc u.cfg.cmdW u.cfg.cmdUp, repeats := trunc u.cfg.rptW u.cfg.repeatFailsafe, tie := false
        cie := true }
  | reservedPhase (hphase : u.phase = .reserved) (hop : decode (osw .timer u) = .error .reservedPhase) :
      TimerEntry u { u with tif := false, fault := u.fault.insert .reservedPhase }

theorem timerEntry_of_enter (h : enter .timer u = .next t) : TimerEntry u t := by
  obtain ⟨h1, hd, hn⟩ | ⟨h1, h2, hd, hn⟩ | ⟨h1, h2, hd, hn⟩ | ⟨h1, h2, hd, hn⟩ | ⟨h1, h2, h3, hd, hn⟩ |
    ⟨h1, h2, h3, h4, hd, hn⟩ | ⟨h1, h2, h3, h4, h5, hd, hn⟩ | ⟨h1, hd, hn⟩ := enter_timer_cases u <;>
    obtain rfl := Host.Outcome.next.inj (hn.symm.trans h)
  · exact .on h1 hd
  · exact .offNext h1 h2 hd
  · exact .offEnd h1 h2 hd
  · exact .delayWait h1 h2 hd
  · exact .delayNext h1 h2 h3 hd
  · exact .delayHalt h1 h2 h3 h4 hd
  · exact .delayFailsafe h1 h2 h3 h4 h5 hd
  · exact .reservedPhase h1 hd

/-- What a preamble tick can do (40_preamble.md R92, R93). -/
inductive HoldTick (u : State) : State → Prop
  | count (hcnt : dec u.cfg.pw u.preCnt ≠ 0) : HoldTick u { u with preCnt := dec u.cfg.pw u.preCnt }
  | nextHold (hcnt : dec u.cfg.pw u.preCnt = 0) (hmore : u.preStep.toNat < 3) :
      HoldTick u { u with
        preStep := u.preStep + 1, preCnt := trunc u.cfg.pw (preTime u.cfg (u.preStep + 1))
        key := preLevel (u.preStep + 1) }
  | finish (hcnt : dec u.cfg.pw u.preCnt = 0) (hlast : ¬ u.preStep.toNat < 3) :
      HoldTick u { u with
        preCnt := 0, key := false, execSt := .run, tcnt := 0, ocr := trunc u.cfg.tw u.cfg.initDelay
        toggle := true, tif := false, tie := true, gie := if u.preCtx = .boot then true else u.gie }

theorem holdTick_preambleTick (u : State) : HoldTick u (preambleTick u) := by
  rw [preambleTick_eq]
  by_cases hcnt : dec u.cfg.pw u.preCnt = 0
  · by_cases hmore : u.preStep.toNat < 3
    · rw [if_pos hcnt, if_pos hmore]
      exact .nextHold hcnt hmore
    · rw [if_pos hcnt, if_neg hmore]
      exact .finish hcnt hmore
  · rw [if_neg hcnt]
    exact .count hcnt

/-- The state an accept step runs on: the front sub-steps have run and the count of held ticks is 0 (log entry 3). -/
abbrev atAccept (s : State) : State := { afterFront s with held := 0 }

/-- Everything a step that answers a next state can do (60_exceptions.md R150, R160). -/
inductive StepCase (s : State) : State → Prop
  | collapse (hoff : (nextEnv s).powerOff = true) : StepCase s { s with script := s.script.tail, power := false }
  | reservedExec (hon : (nextEnv s).powerOff = false) (hexec : s.execSt = .reserved) :
      StepCase s { s with script := s.script.tail, fault := s.fault.insert .reservedExec }
  | boot (hready : Ready s) (hexec : s.execSt = .reset) (hruns : Runs s ["BOOT"]) :
      StepCase s (preambleStart .boot (afterFront s))
  | preamble {t : State} (hready : Ready s) (hexec : s.execSt = .preamble) (hidle : stepOp s = none)
      (htick : HoldTick (afterFront s) t) : StepCase s t
  | noAccept (n : Nat) (hready : Ready s) (hexec : s.execSt = .run) (hidle : stepOp s = none)
      (htimer : ¬ AcceptsTimer s)
      (hheld : (interruptWaiting (afterFront s) = false ∧ n = 0) ∨
        (interruptWaiting (afterFront s) = true ∧ s.held < s.cfg.latMax ∧ n = s.held + 1)) :
      StepCase s { afterFront s with held := n }
  | bothArmed (hboth : AcceptsBoth s) (hidle : stepOp s = none) :
      StepCase s (raiseFault .bothArmed (atAccept s))
  | timer {t : State} (haccepts : AcceptsTimer s) (hop : stepOp s = (decode (osw .timer (atAccept s))).toOption)
      (hentry : TimerEntry (atAccept s) t) : StepCase s t
  | comparator (haccepts : AcceptsComparator s) (hruns : Runs s ["PL.FIRE"]) :
      StepCase s (preambleStart .pl { atAccept s with cif := false, cie := false })

theorem runs_boot_of_reset (hr : Ready s) (hx : s.execSt = .reset) : Runs s ["BOOT"] := by
  obtain ⟨b, f, r, z, ph, hop⟩ := stepOp_of_reset hr hx
  exact ⟨_, hop, by simp [Instr.mnemonic]⟩

theorem stepOp_of_preamble (hx : s.execSt = .preamble) : stepOp s = none := by
  simp only [stepOp, hx, ite_self]

theorem stepCase_of_step (h : step s = .next t) : StepCase s t := by
  have hfront : frontEnd (nextEnv s) (consumeEnv s) = afterFront s := atSequencer_eq s
  obtain ⟨hwf, hfault, hpower, ⟨hoff, rfl⟩ | ⟨hon, hx, rfl⟩ | ⟨hon, hx, rfl⟩ | ⟨hon, hx, rfl⟩ | ⟨hon, hx, -⟩⟩ :=
    step_cases h
  · exact .collapse hoff
  · exact .reservedExec hon hx
  · have hr : Ready s := ⟨hwf, hfault, hpower, hon⟩
    rw [hfront]
    exact .boot hr hx (runs_boot_of_reset hr hx)
  · rw [hfront]
    exact .preamble ⟨hwf, hfault, hpower, hon⟩ hx (stepOp_of_preamble hx) (holdTick_preambleTick _)
  have hr : Ready s := ⟨hwf, hfault, hpower, hon⟩
  obtain ⟨n, rfl, hop, hnt, -, -, hheld⟩ | ⟨hacc, rfl, hop⟩ | ⟨hacc, henter, hop⟩ | ⟨hacc, henter, hop⟩ :=
    step_run_cases h hx hon
  · rw [atSequencer_eq] at hheld ⊢
    exact .noAccept n hr hx hop hnt hheld
  · rw [atSequencer_eq]
    exact .bothArmed hacc hop
  · rw [atSequencer_eq] at henter hop
    exact .timer hacc hop (timerEntry_of_enter henter)
  · rw [atSequencer_eq] at henter
    rw [decode_osw_comparator] at hop
    rw [enter_comparator_next] at henter
    obtain rfl := Host.Outcome.next.inj henter
    exact .comparator hacc ⟨_, hop, by simp [Instr.mnemonic]⟩

/-! ### The configuration and the widths -/

/-- Settles O34: no case of a step writes the configuration, and each drops the script's first entry (20_memory.md
R59). -/
theorem configurationNeverChanges : Obligations.ConfigurationNeverChanges := by
  intro s t h
  cases stepCase_of_step h with
  | preamble _ _ _ htick => cases htick <;> exact ⟨rfl, rfl⟩
  | timer _ _ hentry => cases hentry <;> exact ⟨rfl, rfl⟩
  | collapse | reservedExec | boot | noAccept | bothArmed | comparator => exact ⟨rfl, rfl⟩

theorem step_cfg (h : step s = .next t) : t.cfg = s.cfg := (configurationNeverChanges s t h).1

theorem fits_afterFront (h : Fits s) : Fits (afterFront s) := by
  obtain ⟨hcmd, hbits, hrepeats, -, hocr, hpre⟩ := h
  exact ⟨hcmd, hbits, hrepeats, timerTick_tcnt_lt s, hocr, hpre⟩

theorem fits_preambleStart (ctx : PreCtx) (h : Fits u) : Fits (preambleStart ctx u) := by
  obtain ⟨hcmd, hbits, hrepeats, htcnt, hocr, -⟩ := h
  rw [preambleStart_eq]
  exact ⟨hcmd, hbits, hrepeats, htcnt, hocr, trunc_lt _ _⟩

theorem fits_of_holdTick (h : Fits u) (htick : HoldTick u t) : Fits t := by
  obtain ⟨hcmd, hbits, hrepeats, htcnt, hocr, hpre⟩ := h
  cases htick with
  | count => exact ⟨hcmd, hbits, hrepeats, htcnt, hocr, dec_lt _ _⟩
  | nextHold => exact ⟨hcmd, hbits, hrepeats, htcnt, hocr, trunc_lt _ _⟩
  | finish => exact ⟨hcmd, hbits, hrepeats, Nat.two_pow_pos _, trunc_lt _ _, Nat.two_pow_pos _⟩

theorem fits_of_timerEntry (h : Fits u) (hentry : TimerEntry u t) : Fits t := by
  obtain ⟨hcmd, hbits, hrepeats, htcnt, hocr, hpre⟩ := h
  cases hentry with
  | on => exact ⟨hcmd, hbits, hrepeats, htcnt, trunc_lt _ _, hpre⟩
  | offNext => exact ⟨trunc_lt _ _, dec_lt _ _, hrepeats, htcnt, trunc_lt _ _, hpre⟩
  | offEnd => exact ⟨trunc_lt _ _, trunc_lt _ _, hrepeats, htcnt, trunc_lt _ _, hpre⟩
  | delayWait => exact ⟨hcmd, dec_lt _ _, hrepeats, htcnt, hocr, hpre⟩
  | delayNext | delayHalt => exact ⟨hcmd, trunc_lt _ _, dec_lt _ _, htcnt, hocr, hpre⟩
  | delayFailsafe => exact ⟨trunc_lt _ _, trunc_lt _ _, trunc_lt _ _, htcnt, hocr, hpre⟩
  | reservedPhase => exact ⟨hcmd, hbits, hrepeats, htcnt, hocr, hpre⟩

/-- Settles O33: every written value is cut to its width, whatever the state (10_state.md R20, 00_scope.md R12). -/
theorem everyStepKeepsTheWidths : Obligations.EveryStepKeepsTheWidths := by
  intro s t h hstep
  have hfront : Fits (afterFront s) := fits_afterFront h
  cases stepCase_of_step hstep with
  | collapse | reservedExec => exact h
  | boot => exact fits_preambleStart .boot hfront
  | preamble _ _ _ htick => exact fits_of_holdTick hfront htick
  | noAccept | bothArmed => exact hfront
  | timer _ _ hentry => exact fits_of_timerEntry (u := atAccept s) hfront hentry
  | comparator => exact fits_preambleStart .pl (u := { atAccept s with cif := false, cie := false }) hfront

/-! ### The writers of each element -/

/-- A step that runs one operation runs one of `names` exactly if that one is among them. -/
theorem runs_iff_mem {name : String} {names : List String} (h : Runs s [name]) : Runs s names ↔ name ∈ names := by
  obtain ⟨i, hop, hname⟩ := h
  obtain rfl := List.mem_singleton.mp hname
  exact ⟨fun ⟨j, hj, hmem⟩ => Option.some.inj (hj.symm.trans hop) ▸ hmem, fun hmem => ⟨i, hop, hmem⟩⟩

theorem not_runs {names : List String} (h : stepOp s = none) : ¬ Runs s names :=
  fun ⟨_, hop, _⟩ => by simp [h] at hop

/-- The operation of an accepted timer interrupt, by name. -/
theorem runs_of_decode {i : Instr} (hop : stepOp s = (decode (osw .timer u)).toOption)
    (hd : decode (osw .timer u) = .ok i) : Runs s [i.mnemonic] :=
  ⟨i, by rw [hop, hd]; rfl, List.mem_singleton.mpr rfl⟩

/-- A tick's match is the only writer of `KEY` in the front sub-steps (60_exceptions.md R141). -/
theorem match_of_timerTick_key_ne (h : (timerTick s).key ≠ s.key) :
    s.toggle = true ∧ inc s.cfg.tw s.tcnt = s.ocr := by
  rw [timerTick_key] at h
  by_contra hno
  exact h (if_neg fun ⟨hmatch, htoggle⟩ => hno ⟨htoggle, hmatch⟩)

theorem match_of_timerTick_tif_ne (h : (timerTick s).tif ≠ s.tif) :
    (timerTick s).tif = true ∧ inc s.cfg.tw s.tcnt = s.ocr := by
  rw [timerTick_tif] at h ⊢
  by_cases hmatch : inc s.cfg.tw s.tcnt = s.ocr
  · simp [hmatch]
  · simp [hmatch] at h

theorem fall_of_latch_ne {cif fall : Bool} (h : (cif || fall) ≠ cif) : (cif || fall) = true ∧ fall = true := by
  cases cif <;> cases fall <;> simp at h ⊢

theorem endsPreamble_iff : EndsPreamble s t ↔ s.execSt = .preamble ∧ t.execSt = .run := Iff.rfl

theorem not_acceptsTimer_of_exec (h : s.execSt ≠ .run) : ¬ AcceptsTimer s := fun ⟨_, hexec, _⟩ => h hexec

theorem not_acceptsTimer_of_acceptsBoth (h : AcceptsBoth s) : ¬ AcceptsTimer s := by
  obtain ⟨-, -, -, -, -, hc⟩ := h
  exact fun ⟨_, _, _, _, _, hno⟩ => by simp [hc] at hno

theorem not_acceptsTimer_of_acceptsComparator (h : AcceptsComparator s) : ¬ AcceptsTimer s := by
  obtain ⟨-, -, -, -, ht, -⟩ := h
  exact fun ⟨_, _, _, _, hyes, _⟩ => by simp [ht] at hyes

/-- Settles O35: in each case of a step every changed element has its writer acting in that case; the pin and `TIF` of
the front sub-steps change at a match alone (10_state.md R20). -/
theorem onlyTheListedWritersChangeAnElement : Obligations.OnlyTheListedWritersChangeAnElement := by
  intro s t h
  have hkey := match_of_timerTick_key_ne (s := s)
  have htif := match_of_timerTick_tif_ne (s := s)
  cases stepCase_of_step h with
  | collapse hoff => simp [hoff]
  | reservedExec _ hexec => simp [hexec]
  | boot _ hexec hruns =>
    have htimer := eq_false (not_acceptsTimer_of_exec (s := s) (by simp [hexec]))
    simpa +contextual [preambleStart_eq, afterFront, endsPreamble_iff, runs_iff_mem hruns, hexec, htimer] using htif
  | preamble _ hexec _ htick =>
    have htimer := eq_false (not_acceptsTimer_of_exec (s := s) (by simp [hexec]))
    cases htick with
    | count | nextHold => simpa +contextual [afterFront, endsPreamble_iff, hexec, htimer] using htif
    | finish => simp +contextual [afterFront, endsPreamble_iff, hexec]
  | noAccept _ _ hexec _ htimer =>
    have htimer := eq_false htimer
    simpa +contextual [afterFront, endsPreamble_iff, hexec, hkey, htimer] using htif
  | bothArmed hboth _ =>
    have htimer := eq_false (not_acceptsTimer_of_acceptsBoth hboth)
    have hexec := hboth.2.1
    have hboth := eq_true hboth
    simpa +contextual [afterFront, raiseFault, endsPreamble_iff, hexec, hkey, htimer, hboth] using htif
  | timer hacc hop hentry =>
    have hacc := eq_true hacc
    cases hentry with
    | on _ hd | offNext _ _ hd | offEnd _ _ hd | delayWait _ _ hd | delayNext _ _ _ hd | delayHalt _ _ _ _ hd
    | delayFailsafe _ _ _ _ _ hd =>
      simp +contextual [afterFront, runs_iff_mem (runs_of_decode hop hd), Instr.mnemonic, hkey, hacc]
    | reservedPhase hphase =>
      have hphase : s.phase = .reserved := hphase
      simp +contextual [afterFront, hphase, hkey, hacc]
  | comparator hacc hruns =>
    have htimer := eq_false (not_acceptsTimer_of_acceptsComparator hacc)
    have hexec := hacc.2.1
    simpa +contextual [preambleStart_eq, afterFront, endsPreamble_iff, runs_iff_mem hruns, hexec, htimer] using htif

/-! ### The pending flags -/

/-- In a tick of power collapse or of the reserved `EXEC` no sub-step runs (60_exceptions.md R160, R161). -/
theorem step_flags_of_stopped (h : step s = .next t) (hstop : (nextEnv s).powerOff = true ∨ s.execSt = .reserved) :
    t.tif = s.tif ∧ t.cif = s.cif := by
  have hno : ∀ {e : ExecState}, Ready s → s.execSt = e → e ≠ .reserved → False := by
    rintro e ⟨-, -, -, hon⟩ hexec hne
    obtain hoff | hres := hstop
    · simp [hon] at hoff
    · exact hne (hexec.symm.trans hres)
  cases stepCase_of_step h with
  | collapse | reservedExec => exact ⟨rfl, rfl⟩
  | boot hr hexec | preamble hr hexec | noAccept _ hr hexec => exact (hno hr hexec nofun).elim
  | bothArmed hacc | timer hacc | comparator hacc => exact (hno hacc.1 hacc.2.1 nofun).elim

/-- `TIF` after a step whose sub-steps run: accepted and re-armed away, else the timer's (10_state.md R29). -/
theorem step_tif (h : step s = .next t) (hon : (nextEnv s).powerOff = false) (hexec : s.execSt ≠ .reserved) :
    t.tif = true ↔ (s.tif = true ∨ inc s.cfg.tw s.tcnt = s.ocr) ∧ ¬ AcceptsTimer s ∧ ¬ EndsPreamble s t := by
  have htif : (timerTick s).tif = true ↔ s.tif = true ∨ inc s.cfg.tw s.tcnt = s.ocr := by simp [timerTick_tif]
  cases stepCase_of_step h with
  | collapse hoff => simp [hon] at hoff
  | reservedExec _ hres => exact absurd hres hexec
  | boot _ hx =>
    have htimer := eq_false (not_acceptsTimer_of_exec (s := s) (by simp [hx]))
    simp [preambleStart_eq, afterFront, endsPreamble_iff, hx, htimer, htif]
  | preamble _ hx _ htick =>
    have htimer := eq_false (not_acceptsTimer_of_exec (s := s) (by simp [hx]))
    cases htick <;> simp [afterFront, endsPreamble_iff, hx, htimer, htif]
  | noAccept _ _ hx _ htimer => simp [afterFront, endsPreamble_iff, hx, eq_false htimer, htif]
  | bothArmed hboth =>
    have htimer := eq_false (not_acceptsTimer_of_acceptsBoth hboth)
    simp [afterFront, raiseFault, endsPreamble_iff, hboth.2.1, htimer, htif]
  | timer hacc _ hentry =>
    have hacc := eq_true hacc
    cases hentry <;> simp [hacc]
  | comparator hacc =>
    have htimer := eq_false (not_acceptsTimer_of_acceptsComparator hacc)
    simp [preambleStart_eq, afterFront, endsPreamble_iff, hacc.2.1, htimer, htif]

/-- `CIF` after a step whose sub-steps run: cleared by PL.FIRE, else the latch's (10_state.md R31). -/
theorem step_cif (h : step s = .next t) (hon : (nextEnv s).powerOff = false) (hexec : s.execSt ≠ .reserved) :
    t.cif = true ↔ (s.cif = true ∨ (nextEnv s).fall = true) ∧ ¬ Runs s ["PL.FIRE"] := by
  cases stepCase_of_step h with
  | collapse hoff => simp [hon] at hoff
  | reservedExec _ hres => exact absurd hres hexec
  | boot _ _ hruns => simp [preambleStart_eq, afterFront, runs_iff_mem hruns]
  | preamble _ _ hidle htick => cases htick <;> simp [afterFront, eq_false (not_runs hidle)]
  | noAccept _ _ _ hidle | bothArmed _ hidle => simp [afterFront, eq_false (not_runs hidle)]
  | timer _ hop hentry =>
    cases hentry with
    | on _ hd | offNext _ _ hd | offEnd _ _ hd | delayWait _ _ hd | delayNext _ _ _ hd | delayHalt _ _ _ _ hd
    | delayFailsafe _ _ _ _ _ hd => simp [afterFront, runs_iff_mem (runs_of_decode hop hd), Instr.mnemonic]
    | reservedPhase _ hd =>
      have hidle : stepOp s = none := by rw [hop, hd]; rfl
      simp [afterFront, eq_false (not_runs hidle)]
  | comparator _ hruns => simp [preambleStart_eq, runs_iff_mem hruns]

/-- Settles O36: the stopped ticks from `step_flags_of_stopped`, every other tick from `step_tif` and `step_cif`
(10_state.md R29, R31). -/
theorem pendingFlagsStayUntilAccepted : Obligations.PendingFlagsStayUntilAccepted :=
  fun _ _ h => ⟨step_flags_of_stopped h, fun hon hexec => ⟨step_tif h hon hexec, step_cif h hon hexec⟩⟩

end Sys2Proof.Proofs

/-! The invariant of the block (10_state.md R41, R44), mode by mode: the shape of each mode as a structure, what a step
makes of it, and the rules about the modes that follow (R40; 60_exceptions.md R162, R165, R171; 42_power_loss.md R130). -/

namespace Sys2Proof.Proofs

open Sys2Proof.Machine Sys2Proof.Safety

variable {s t u : State}

/-! ### The shapes of the modes -/

/-- What the invariant asks of every mode. -/
structure Sound (s : State) : Prop where
  wf : s.cfg.wf = true
  fault : s.fault = .empty
  held : HeldOk s
  fits : Fits s

/-- Mode Reset (70_reset_and_hazards.md R180). -/
structure InReset (s : State) : Prop where
  exec : s.execSt = .reset
  fresh : FreshFrame s
  down : DownLoaded s
  tie : s.tie = false
  cie : s.cie = false
  gie : s.gie = false
  toggle : s.toggle = false
  key : s.key = false
  tcnt : s.tcnt = 0
  ocr : s.ocr = 0

/-- Mode Preamble (40_preamble.md R92, R95). -/
structure InPreamble (s : State) : Prop where
  exec : s.execSt = .preamble
  fresh : FreshFrame s
  tie : s.tie = false
  cie : s.cie = false
  toggle : s.toggle = false
  key : s.key = preLevel s.preStep
  count_pos : 1 ≤ s.preCnt
  count_le : s.preCnt ≤ preTime s.cfg s.preStep
  boot : s.preCtx = .boot → DownLoaded s ∧ s.gie = false
  pl : s.preCtx = .pl → UpLoaded s ∧ s.gie = true

/-- Mode Transmitting (41_encoder.md R104, R106). -/
structure InTransmitting (s : State) : Prop where
  exec : s.execSt = .run
  gie : s.gie = true
  tie : s.tie = true
  cie : s.cie = false
  phase : s.phase ≠ .reserved
  bits : 1 ≤ s.bits
  repeats : 1 ≤ s.repeats
  framing : s.phase ≠ .delay → s.bits ≤ s.cfg.frameLen ∧ s.toggle = true
  delaying : s.phase = .delay → s.bits ≤ s.cfg.delayLen ∧ s.toggle = false ∧ s.key = false ∧ s.cmd = selCmd s

/-- Mode AwaitingPowerLoss, where `CIE` is 1, or Idle (42_power_loss.md R133, 60_exceptions.md R171). -/
structure InDisarmed (s : State) : Prop where
  exec : s.execSt = .run
  gie : s.gie = true
  tie : s.tie = false
  monitor : s.cie = true → UpLoaded s
  fresh : FreshFrame s
  toggle : s.toggle = false
  key : s.key = false

/-! ### From the invariant to the shapes -/

theorem sound_of_inv (h : Inv s) : Sound s := by
  obtain ⟨hwf, hfault, -, -, -, -, -, hheld, hfits, -⟩ := h
  exact ⟨hwf, hfault, hheld, hfits⟩

theorem inReset_of_inv (h : Inv s) (hx : s.execSt = .reset) : InReset s := by
  obtain ⟨-, -, -, -, -, -, -, -, -, hreset, -⟩ := h
  obtain ⟨hfresh, hdown, htie, hcie, hgie, htoggle, hkey, htcnt, hocr⟩ := hreset hx
  exact ⟨hx, hfresh, hdown, htie, hcie, hgie, htoggle, hkey, htcnt, hocr⟩

theorem inPreamble_of_inv (h : Inv s) (hx : s.execSt = .preamble) : InPreamble s := by
  obtain ⟨-, -, -, -, -, -, -, -, -, -, hpreamble, -⟩ := h
  obtain ⟨hfresh, htie, hcie, htoggle, hkey, hpos, hle, hboot, hpl⟩ := hpreamble hx
  exact ⟨hx, hfresh, htie, hcie, htoggle, hkey, hpos, hle, hboot, hpl⟩

theorem inTransmitting_of_inv (h : Inv s) (hx : s.execSt = .run) (htie : s.tie = true) : InTransmitting s := by
  obtain ⟨-, -, hphase, -, hone, -, hgie, -, -, -, -, htransmitting, -⟩ := h
  obtain ⟨hbits, hrepeats, hframing, hdelaying⟩ := htransmitting hx htie
  have hcie : s.cie = false := Bool.eq_false_iff.mpr fun hcie => hone ⟨htie, hcie⟩
  exact ⟨hx, hgie hx, htie, hcie, hphase, hbits, hrepeats, hframing, hdelaying⟩

theorem inDisarmed_of_inv (h : Inv s) (hx : s.execSt = .run) (htie : s.tie = false) : InDisarmed s := by
  obtain ⟨-, -, -, -, -, hmonitor, hgie, -, -, -, -, -, hdisarmed⟩ := h
  obtain ⟨hfresh, htoggle, hkey⟩ := hdisarmed hx htie
  exact ⟨hx, hgie hx, htie, fun hcie => (hmonitor hcie).1, hfresh, htoggle, hkey⟩

/-! ### From the shapes to the invariant -/

theorem phase_ne_reserved_of_fresh (h : FreshFrame s) : s.phase ≠ .reserved := by
  simp [h.1]

theorem inv_of_inReset (hs : Sound s) (h : InReset s) : Inv s := by
  obtain ⟨hwf, hfault, hheld, hfits⟩ := hs
  obtain ⟨hx, hfresh, hdown, htie, hcie, hgie, htoggle, hkey, htcnt, hocr⟩ := h
  refine ⟨hwf, hfault, phase_ne_reserved_of_fresh hfresh, by simp [hx], by simp [htie], by simp [hcie], by simp [hx],
    hheld, hfits, fun _ => ⟨hfresh, hdown, htie, hcie, hgie, htoggle, hkey, htcnt, hocr⟩, ?_, ?_, ?_⟩ <;>
    simp [hx]

theorem inv_of_inPreamble (hs : Sound s) (h : InPreamble s) : Inv s := by
  obtain ⟨hwf, hfault, hheld, hfits⟩ := hs
  obtain ⟨hx, hfresh, htie, hcie, htoggle, hkey, hpos, hle, hboot, hpl⟩ := h
  refine ⟨hwf, hfault, phase_ne_reserved_of_fresh hfresh, by simp [hx], by simp [htie], by simp [hcie], by simp [hx],
    hheld, hfits, ?_, fun _ => ⟨hfresh, htie, hcie, htoggle, hkey, hpos, hle, hboot, hpl⟩, ?_, ?_⟩ <;>
    simp [hx]

theorem inv_of_inTransmitting (hs : Sound s) (h : InTransmitting s) : Inv s := by
  obtain ⟨hwf, hfault, hheld, hfits⟩ := hs
  obtain ⟨hx, hgie, htie, hcie, hphase, hbits, hrepeats, hframing, hdelaying⟩ := h
  refine ⟨hwf, hfault, hphase, by simp [hx], by simp [hcie], by simp [hcie], fun _ => hgie, hheld, hfits, ?_, ?_,
    fun _ _ => ⟨hbits, hrepeats, hframing, hdelaying⟩, ?_⟩ <;>
    simp [hx, htie]

theorem inv_of_inDisarmed (hs : Sound s) (h : InDisarmed s) : Inv s := by
  obtain ⟨hwf, hfault, hheld, hfits⟩ := hs
  obtain ⟨hx, hgie, htie, hmonitor, hfresh, htoggle, hkey⟩ := h
  refine ⟨hwf, hfault, phase_ne_reserved_of_fresh hfresh, by simp [hx], by simp [htie],
    fun hcie => ⟨hmonitor hcie, hx⟩, fun _ => hgie, hheld, hfits, ?_, ?_, ?_, fun _ _ => ⟨hfresh, htoggle, hkey⟩⟩ <;>
    simp [hx, htie]

/-! ### The count of held ticks (log entry 3) -/

theorem heldOk_of_zero (h : s.held = 0) : HeldOk s := ⟨h ▸ Nat.zero_le _, fun _ => h⟩

theorem not_waiting_of_disabled (htie : s.tie = false) (hcie : s.cie = false) : interruptWaiting s = false := by
  simp [interruptWaiting, timerRequest, comparatorRequest, htie, hcie]

theorem held_eq_zero_of_disabled (hs : Sound s) (htie : s.tie = false) (hcie : s.cie = false) : s.held = 0 :=
  hs.held.2 (not_waiting_of_disabled htie hcie)

/-! ### What a step makes of each shape -/

/-- BOOT begins the long high hold with the down burst loaded (70_reset_and_hazards.md R184). -/
theorem inPreamble_boot (hwf : s.cfg.wf = true) (h : InReset s) : InPreamble (preambleStart .boot (afterFront s)) := by
  have hcnt := trunc_preT0 hwf
  have hrange : 1 ≤ s.cfg.preT0 ∧ _ := preTime_range hwf 0
  rw [preambleStart_eq]
  refine ⟨rfl, h.fresh, h.tie, h.cie, h.toggle, rfl, ?_, ?_, fun _ => ⟨h.down, h.gie⟩, nofun⟩
  · exact hrange.1.trans_eq hcnt.symm
  · exact hcnt.le

/-- PL.FIRE begins the long high hold with the up burst loaded and the monitor disarmed (42_power_loss.md R130). -/
theorem inPreamble_plFire (hwf : s.cfg.wf = true) (h : InDisarmed s) (hcie : s.cie = true) :
    InPreamble (preambleStart .pl { atAccept s with cif := false, cie := false }) := by
  have hcnt := trunc_preT0 hwf
  have hrange : 1 ≤ s.cfg.preT0 ∧ _ := preTime_range hwf 0
  rw [preambleStart_eq]
  refine ⟨rfl, h.fresh, h.tie, rfl, h.toggle, rfl, ?_, ?_, nofun, fun _ => ⟨h.monitor hcie, h.gie⟩⟩
  · exact hrange.1.trans_eq hcnt.symm
  · exact hcnt.le

/-- At the end of either preamble a burst is loaded: at least one frame of at least one bit (40_preamble.md R93). -/
theorem burst_loaded (hwf : s.cfg.wf = true) (h : InPreamble s) :
    1 ≤ s.bits ∧ s.bits = s.cfg.frameLen ∧ 1 ≤ s.repeats := by
  obtain ⟨-, ⟨hlen, -⟩, -, -, ⟨-, ⟨hprimary, -⟩, hfailsafe, -⟩, -⟩ := Config.wf_ranges hwf
  obtain ⟨-, hbits⟩ := h.fresh
  refine ⟨hbits ▸ hlen, hbits, ?_⟩
  cases hctx : s.preCtx with
  | boot =>
    obtain ⟨⟨-, -, hrepeats⟩, -⟩ := h.boot hctx
    exact hrepeats ▸ hprimary
  | pl =>
    obtain ⟨⟨-, -, hrepeats, -⟩, -⟩ := h.pl hctx
    exact hrepeats ▸ hfailsafe

/-- A preamble tick stays in the preamble, or it ends it and the encoder is armed (40_preamble.md R92, R93). -/
theorem inPreamble_or_inTransmitting (hs : Sound s) (h : InPreamble s) (htick : HoldTick (afterFront s) t) :
    InPreamble t ∨ InTransmitting t := by
  have hwf := hs.wf
  obtain ⟨-, -, -, -, -, hfit⟩ := hs.fits
  have hdec : dec s.cfg.pw s.preCnt = s.preCnt - 1 := dec_of_pos h.count_pos hfit
  have hpos := h.count_pos
  have hle := h.count_le
  cases htick with
  | count hcnt =>
    replace hcnt : dec s.cfg.pw s.preCnt ≠ 0 := hcnt
    refine .inl ⟨h.exec, h.fresh, h.tie, h.cie, h.toggle, (timerTick_key_of_toggle_off h.toggle).trans h.key, ?_, ?_,
      h.boot, h.pl⟩
    · exact Nat.pos_of_ne_zero hcnt
    · change dec s.cfg.pw s.preCnt ≤ preTime s.cfg s.preStep
      omega
  | nextHold =>
    have hcnt := trunc_preTime hwf (s.preStep + 1)
    have hrange := preTime_range hwf (s.preStep + 1)
    refine .inl ⟨h.exec, h.fresh, h.tie, h.cie, h.toggle, rfl, ?_, hcnt.le, h.boot, h.pl⟩
    exact hrange.1.trans_eq hcnt.symm
  | finish =>
    obtain ⟨hphase, -⟩ := h.fresh
    obtain ⟨hbits, hframe, hrepeats⟩ := burst_loaded hwf h
    have hgie : (if s.preCtx = .boot then true else s.gie) = true := by
      cases hctx : s.preCtx
      · rfl
      · exact (h.pl hctx).2
    refine .inr ⟨rfl, hgie, rfl, h.cie, by simp [afterFront, hphase], hbits, hrepeats, fun _ => ⟨hframe.le, rfl⟩, ?_⟩
    simp [afterFront, hphase]

/-- The front sub-steps keep mode Transmitting: they move the pin in toggle mode only, which DELAY leaves off
(70_reset_and_hazards.md R194). -/
theorem inTransmitting_afterFront (n : Nat) (h : InTransmitting s) : InTransmitting { afterFront s with held := n } := by
  refine ⟨h.exec, h.gie, h.tie, h.cie, h.phase, h.bits, h.repeats, h.framing, fun hphase => ?_⟩
  obtain ⟨hbits, htoggle, hkey, hcmd⟩ := h.delaying hphase
  exact ⟨hbits, htoggle, (timerTick_key_of_toggle_off htoggle).trans hkey, hcmd⟩

theorem inDisarmed_afterFront (n : Nat) (h : InDisarmed s) : InDisarmed { afterFront s with held := n } :=
  ⟨h.exec, h.gie, h.tie, h.monitor, h.fresh, h.toggle, (timerTick_key_of_toggle_off h.toggle).trans h.key⟩

/-- A timer-compare operation of mode Transmitting stays in it, but DELAY.HALT and DELAY.FAILSAFE disarm
(41_encoder.md R102 to R108). -/
theorem inTransmitting_or_inDisarmed (hwf : u.cfg.wf = true) (hfits : Fits u) (h : InTransmitting u)
    (hentry : TimerEntry u t) : InTransmitting t ∨ InDisarmed t := by
  obtain ⟨-, ⟨hlen, -⟩, -, -, ⟨⟨hdelay, -⟩, -⟩, -⟩ := Config.wf_ranges hwf
  obtain ⟨-, hbitsFit, hrepeatsFit, -⟩ := hfits
  have hbits : dec u.cfg.cntW u.bits = u.bits - 1 := dec_of_pos h.bits hbitsFit
  have hrepeats : dec u.cfg.rptW u.repeats = u.repeats - 1 := dec_of_pos h.repeats hrepeatsFit
  cases hentry with
  | on hphase =>
    have hframing := h.framing (by simp [hphase])
    exact .inl ⟨h.exec, h.gie, h.tie, h.cie, nofun, h.bits, h.repeats, fun _ => hframing, nofun⟩
  | offNext hphase hne =>
    obtain ⟨hle, htoggle⟩ := h.framing (by simp [hphase])
    refine .inl ⟨h.exec, h.gie, h.tie, h.cie, nofun, Nat.pos_of_ne_zero hne, h.repeats, fun _ => ⟨?_, htoggle⟩, nofun⟩
    change dec u.cfg.cntW u.bits ≤ u.cfg.frameLen
    omega
  | offEnd =>
    have hcnt := trunc_delayLen hwf
    refine .inl ⟨h.exec, h.gie, h.tie, h.cie, nofun, hdelay.trans_eq hcnt.symm, h.repeats, fun hno => absurd rfl hno,
      fun _ => ⟨hcnt.le, rfl, rfl, trunc_selCmd hwf⟩⟩
  | delayWait hphase hne =>
    obtain ⟨hle, htoggle, hkey, hcmd⟩ := h.delaying hphase
    refine .inl ⟨h.exec, h.gie, h.tie, h.cie, h.phase, Nat.pos_of_ne_zero hne, h.repeats,
      fun hno => absurd hphase hno, fun _ => ⟨?_, htoggle, hkey, hcmd⟩⟩
    change dec u.cfg.cntW u.bits ≤ u.cfg.delayLen
    omega
  | delayNext _ _ hne =>
    have hcnt := trunc_frameLen hwf
    exact .inl ⟨h.exec, h.gie, h.tie, h.cie, nofun, hlen.trans_eq hcnt.symm, Nat.pos_of_ne_zero hne,
      fun _ => ⟨hcnt.le, rfl⟩, nofun⟩
  | delayHalt hphase =>
    obtain ⟨-, htoggle, hkey, -⟩ := h.delaying hphase
    have hno : u.cie = true → False := by simp [h.cie]
    exact .inr ⟨h.exec, h.gie, rfl, fun hcie => (hno hcie).elim, ⟨rfl, trunc_frameLen hwf⟩, htoggle, hkey⟩
  | delayFailsafe hphase _ _ _ hfs =>
    obtain ⟨-, htoggle, hkey, -⟩ := h.delaying hphase
    exact .inr ⟨h.exec, h.gie, rfl, fun _ => ⟨rfl, trunc_cmdUp hwf, trunc_repeatFailsafe hwf, hfs⟩,
      ⟨rfl, trunc_frameLen hwf⟩, htoggle, hkey⟩
  | reservedPhase hphase => exact absurd hphase h.phase

/-! ### The invariant -/

theorem cie_of_acceptsComparator (h : AcceptsComparator s) : s.cie = true := by
  obtain ⟨-, -, -, -, -, hc⟩ := h
  rw [comparatorRequest_iff, atSequencer_cie] at hc
  exact hc.1

theorem tie_eq_false_of_cie (h : Inv s) (hcie : s.cie = true) : s.tie = false := by
  obtain ⟨-, -, -, -, hone, -⟩ := h
  exact Bool.eq_false_iff.mpr fun htie => hone ⟨htie, hcie⟩

/-- Under the invariant no step finds both interrupts armed (10_state.md R41). -/
theorem not_acceptsBoth_of_inv (h : Inv s) : ¬ AcceptsBoth s := by
  rintro ⟨-, -, -, -, ht, hc⟩
  obtain ⟨-, -, -, -, hone, -⟩ := h
  rw [comparatorRequest_iff, atSequencer_cie] at hc
  rw [timerRequest, Bool.and_eq_true, atSequencer_tie] at ht
  exact hone ⟨ht.1, hc.1⟩

/-- Under the invariant no step records a fault (10_state.md R44). -/
theorem step_fault_of_inv (h : Inv s) (hstep : step s = .next t) : t.fault = .empty := by
  obtain ⟨-, hfault, hphase, hexec, -⟩ := id h
  cases stepCase_of_step hstep with
  | reservedExec _ hres => exact absurd hres hexec
  | bothArmed hboth => exact absurd hboth (not_acceptsBoth_of_inv h)
  | preamble _ _ _ htick => cases htick <;> exact hfault
  | timer _ _ hentry =>
    cases hentry with
    | reservedPhase hres => exact absurd hres hphase
    | on | offNext | offEnd | delayWait | delayNext | delayHalt | delayFailsafe => exact hfault
  | collapse | boot | noAccept | comparator => exact hfault

/-- The count of held ticks after a step: it counts below the bound while an interrupt waits, and every tick of another
mode leaves it 0 (log entry 3). -/
theorem step_heldOk_of_inv (h : Inv s) (hstep : step s = .next t) : HeldOk t := by
  have hs := sound_of_inv h
  cases stepCase_of_step hstep with
  | collapse | reservedExec => exact hs.held
  | boot _ hx =>
    have hr := inReset_of_inv h hx
    have hzero : s.held = 0 := held_eq_zero_of_disabled hs hr.tie hr.cie
    exact heldOk_of_zero hzero
  | preamble _ hx _ htick =>
    have hp := inPreamble_of_inv h hx
    have hzero : s.held = 0 := held_eq_zero_of_disabled hs hp.tie hp.cie
    cases htick <;> exact heldOk_of_zero hzero
  | noAccept n _ _ _ _ hheld =>
    obtain ⟨-, rfl⟩ | ⟨hwaiting, hlt, rfl⟩ := hheld
    · exact heldOk_of_zero rfl
    · refine ⟨hlt, fun hno => ?_⟩
      exact absurd (hwaiting.symm.trans hno) nofun
  | timer _ _ hentry => cases hentry <;> exact heldOk_of_zero rfl
  | bothArmed | comparator => exact heldOk_of_zero rfl

theorem sound_of_step (h : Inv s) (hstep : step s = .next t) : Sound t where
  wf := (step_cfg hstep).symm ▸ (sound_of_inv h).wf
  fault := step_fault_of_inv h hstep
  held := step_heldOk_of_inv h hstep
  fits := everyStepKeepsTheWidths s t (sound_of_inv h).fits hstep

/-- Settles O30: each case of a step leads from the shape of its mode to the shape of the next (10_state.md R41, R44). -/
theorem everyStepKeepsTheInvariant : Obligations.EveryStepKeepsTheInvariant := by
  intro s t h hstep
  have hs := sound_of_inv h
  have ht := sound_of_step h hstep
  cases stepCase_of_step hstep with
  | collapse => exact h
  | reservedExec _ hres =>
    obtain ⟨-, -, -, hexec, -⟩ := h
    exact absurd hres hexec
  | boot _ hx => exact inv_of_inPreamble ht (inPreamble_boot hs.wf (inReset_of_inv h hx))
  | preamble _ hx _ htick =>
    obtain hp | htr := inPreamble_or_inTransmitting hs (inPreamble_of_inv h hx) htick
    · exact inv_of_inPreamble ht hp
    · exact inv_of_inTransmitting ht htr
  | noAccept n _ hx =>
    cases htie : s.tie with
    | true => exact inv_of_inTransmitting ht (inTransmitting_afterFront n (inTransmitting_of_inv h hx htie))
    | false => exact inv_of_inDisarmed ht (inDisarmed_afterFront n (inDisarmed_of_inv h hx htie))
  | bothArmed hboth => exact absurd hboth (not_acceptsBoth_of_inv h)
  | timer hacc _ hentry =>
    have htr := inTransmitting_afterFront 0 (inTransmitting_of_inv h hacc.2.1 (tie_of_acceptsTimer hacc))
    obtain htr | hd := inTransmitting_or_inDisarmed (u := atAccept s) hs.wf (fits_afterFront hs.fits) htr hentry
    · exact inv_of_inTransmitting ht htr
    · exact inv_of_inDisarmed ht hd
  | comparator hacc =>
    have hcie := cie_of_acceptsComparator hacc
    have htie := tie_eq_false_of_cie h hcie
    exact inv_of_inPreamble ht (inPreamble_plFire hs.wf (inDisarmed_of_inv h hacc.2.1 htie) hcie)

end Sys2Proof.Proofs

/-! The start of a run, and the rules about the modes that follow from the invariant: a powered block steps, it is in one
mode, and the mode changes along the table (10_state.md R40; 60_exceptions.md R162, R165, R171; 42_power_loss.md R130,
R132; 70_reset_and_hazards.md R180, R183). -/

namespace Sys2Proof.Proofs

open Sys2Proof.Machine Sys2Proof.Safety

variable {s t u : State} {m m' : Mode}

/-! ### Reset -/

/-- Settles O27: both are the definition of the reset state (70_reset_and_hazards.md R180). -/
theorem resetPutsEveryElement : Obligations.ResetPutsEveryElement := ⟨rfl, fun _ _ => rfl⟩

/-- The loaded values of a well-formed build fit their elements (00_scope.md R6). -/
theorem inv_resetWith {c : Config} (env : List Env) (hwf : c.wf = true) : Inv (State.resetWith c env) := by
  obtain ⟨-, ⟨-, -, hlen⟩, ⟨hdown, -⟩, -, ⟨-, ⟨-, hprimary⟩, -⟩, -⟩ := Config.wf_ranges hwf
  have hfits : Fits (State.resetWith c env) :=
    ⟨hdown, hlen, hprimary, Nat.two_pow_pos _, Nat.two_pow_pos _, Nat.two_pow_pos _⟩
  exact inv_of_inReset ⟨hwf, rfl, heldOk_of_zero rfl, hfits⟩
    ⟨rfl, ⟨rfl, rfl⟩, ⟨rfl, rfl, rfl⟩, rfl, rfl, rfl, rfl, rfl, rfl, rfl⟩

/-- Settles O29: the reset state has the shape of mode Reset, and it is not in RUN (10_state.md R44). -/
theorem resetMeetsTheInvariant : Obligations.ResetMeetsTheInvariant :=
  ⟨inv_resetWith [] Config.build_wf, fun _ env hwf => ⟨inv_resetWith env hwf, nofun⟩⟩

/-- Settles O28: from `TCNT` = `OCR` = 0 the first tick counts to 1 without a match, and then BOOT runs
(70_reset_and_hazards.md R183, R184). -/
theorem firstStepRunsBoot : Obligations.FirstStepRunsBoot := by
  intro c env hwf hon
  obtain ⟨⟨-, -, -, htw, -⟩, -⟩ := Config.wf_ranges hwf
  have hinc : inc c.tw 0 = 1 := inc_of_lt (Nat.lt_of_lt_of_le (by decide) (Nat.pow_le_pow_right (by decide) htw))
  have hno : inc (State.resetWith c env).cfg.tw (State.resetWith c env).tcnt ≠ (State.resetWith c env).ocr := by
    change inc c.tw 0 ≠ 0
    simp [hinc]
  have htick : timerTick (State.resetWith c env) = { State.resetWith c env with tcnt := 1 } := by
    rw [timerTick_eq, if_neg hno]
    simp [State.resetWith, hinc]
  rw [step_of_reset (s := State.resetWith c env) ⟨hwf, rfl, rfl, hon⟩ rfl, atSequencer_eq, afterFront, htick,
    preambleStart_eq]
  simp [State.resetWith, trunc_preT0 hwf]

/-! ### A powered block steps -/

theorem enter_timer_next (u : State) : ∃ t, enter .timer u = .next t := by
  obtain ⟨-, -, hn⟩ | ⟨-, -, -, hn⟩ | ⟨-, -, -, hn⟩ | ⟨-, -, -, hn⟩ | ⟨-, -, -, -, hn⟩ | ⟨-, -, -, -, -, hn⟩ |
    ⟨-, -, -, -, -, -, hn⟩ | ⟨-, -, hn⟩ := enter_timer_cases u <;> exact ⟨_, hn⟩

theorem accept_next (u : State) : ∃ t, accept u = .next t := by
  obtain ⟨-, ha⟩ | ⟨-, -, -, ha⟩ | ⟨-, -, -, ha⟩ | ⟨-, -, -, ha⟩ | ⟨-, -, -, ha⟩ := accept_cases u
  case inr.inr.inl => exact ha ▸ enter_timer_next u
  case inr.inr.inr.inl => exact ⟨_, ha.trans (enter_comparator_next u)⟩
  all_goals exact ⟨_, ha⟩

theorem runTick_next (env : Env) (u : State) : ∃ t, runTick env u = .next t := by
  obtain ⟨-, hrun⟩ | ⟨-, -, hrun⟩ := runTick_cases u env
  · exact hrun ▸ accept_next _
  · exact ⟨_, hrun⟩

/-- A powered block with a well-formed configuration and no fault takes a step (60_exceptions.md R160). -/
theorem step_next (hwf : s.cfg.wf = true) (hfault : s.fault = .empty) (hpower : s.power = true) :
    ∃ t, step s = .next t := by
  rw [step_of_ready hwf hfault hpower]
  split
  · exact ⟨_, rfl⟩
  · split
    · exact ⟨_, rfl⟩
    · exact ⟨_, rfl⟩
    · exact ⟨_, rfl⟩
    · exact runTick_next _ _

/-- Settles O31: the step exists, and under the invariant it records no fault (10_state.md R44, 60_exceptions.md R165). -/
theorem poweredBlockAlwaysSteps : Obligations.PoweredBlockAlwaysSteps := by
  intro s h hpower
  have hs := sound_of_inv h
  obtain ⟨t, ht⟩ := step_next hs.wf hs.fault hpower
  exact ⟨t, ht, step_fault_of_inv h ht⟩

/-! ### The modes -/

/-- The mode of a state in which at most one source is armed and `EXEC` is not reserved (10_state.md R40). -/
def modeOf (s : State) : Mode :=
  match s.execSt with
  | .reset => .reset
  | .preamble => .preamble
  | .run => if s.tie then .transmitting else if s.cie then .awaitingPowerLoss else .idle
  | .reserved => .idle

theorem modeOf_of_run (hx : s.execSt = .run) :
    modeOf s = if s.tie then .transmitting else if s.cie then .awaitingPowerLoss else .idle := by
  rw [modeOf, hx]

/-- Under the invariant the mode view names one mode: `EXEC` is not reserved, and never both sources are armed
(10_state.md R40, R41). -/
theorem inMode_iff (h : Inv s) : inMode m s = true ↔ m = modeOf s := by
  obtain ⟨-, -, -, hexec, hone, -⟩ := h
  cases hx : s.execSt with
  | reset | preamble => cases m <;> simp [inMode, modeOf, hx]
  | reserved => exact absurd hx hexec
  | run =>
    rw [modeOf_of_run hx]
    cases htie : s.tie with
    | true =>
      have hcie : s.cie = false := Bool.eq_false_iff.mpr fun hcie => hone ⟨htie, hcie⟩
      cases m <;> simp [inMode, hx, htie, hcie]
    | false => cases hcie : s.cie <;> cases m <;> simp [inMode, hx, htie, hcie]

/-- Settles O40: `inMode_iff` names the mode (10_state.md R40). -/
theorem exactlyOneModeHolds : Obligations.ExactlyOneModeHolds :=
  fun s h => ⟨modeOf s, (inMode_iff h).mpr rfl, fun _ => (inMode_iff h).mp⟩

/-- Settles O41: the cases of a step that leave the mode are BOOT, the end of a preamble, DELAY.HALT, DELAY.FAILSAFE and
PL.FIRE (60_exceptions.md R162). -/
theorem modesChangeOnlyAlongTheTable : Obligations.ModesChangeOnlyAlongTheTable := by
  intro s t m m' h hstep hm hm' hne
  obtain rfl := (inMode_iff h).mp hm
  obtain rfl := (inMode_iff (everyStepKeepsTheInvariant s t h hstep)).mp hm'
  cases stepCase_of_step hstep with
  | collapse => exact absurd rfl hne
  | reservedExec _ hres =>
    obtain ⟨-, -, -, hexec, -⟩ := h
    exact absurd hres hexec
  | boot _ hx hruns => simp [modeOf, preambleStart_eq, hx, modeEdge, hruns]
  | preamble _ hx _ htick =>
    cases htick with
    | count | nextHold => exact absurd rfl hne
    | finish => simp [modeOf, hx, modeEdge, endsPreamble_iff]
  | noAccept => exact absurd rfl hne
  | bothArmed hboth => exact absurd hboth (not_acceptsBoth_of_inv h)
  | timer hacc hop hentry =>
    have hx : s.execSt = .run := hacc.2.1
    have hp := inTransmitting_of_inv h hx (tie_of_acceptsTimer hacc)
    cases hentry with
    | on | offNext | offEnd | delayWait | delayNext | reservedPhase => exact absurd rfl hne
    | delayHalt _ _ _ _ hd =>
      simp [modeOf, afterFront, hx, hp.tie, hp.cie, modeEdge, runs_iff_mem (runs_of_decode hop hd), Instr.mnemonic]
    | delayFailsafe _ _ _ _ _ hd =>
      simp [modeOf, afterFront, hx, hp.tie, modeEdge, runs_iff_mem (runs_of_decode hop hd), Instr.mnemonic]
  | comparator hacc hruns =>
    have hcie := cie_of_acceptsComparator hacc
    have htie := tie_eq_false_of_cie h hcie
    simp [modeOf, preambleStart_eq, hacc.2.1, htie, hcie, modeEdge, hruns]

/-! ### Runs of many ticks -/

/-- A run of a machine behind the host's interface, one step at a time. -/
theorem core_run_succ_iff {M : Host.Core} {s t : M.State} {n : Nat} :
    M.run (n + 1) s = .next t ↔ ∃ u, M.step s = .next u ∧ M.run n u = .next t := by
  rw [Host.Core.run]
  cases M.step s with
  | next v => exact ⟨fun h => ⟨v, rfl, h⟩, fun ⟨u, hu, h⟩ => Host.Outcome.next.inj hu ▸ h⟩
  | fault r => exact ⟨nofun, nofun⟩
  | refused r => exact ⟨nofun, nofun⟩

theorem run_succ_iff {n : Nat} :
    Sys2Proof.core.run (n + 1) s = .next t ↔ ∃ u, step s = .next u ∧ Sys2Proof.core.run n u = .next t :=
  core_run_succ_iff (M := Sys2Proof.core)

/-- What every step keeps, a run of any number of ticks keeps. -/
theorem run_keeps {P : State → Prop} (hkeeps : ∀ s t, P s → step s = .next t → P t) :
    ∀ {n : Nat} {s t : State}, P s → Sys2Proof.core.run n s = .next t → P t := by
  intro n
  induction n with
  | zero =>
    intro s t hs hrun
    obtain rfl := Host.Outcome.next.inj hrun
    exact hs
  | succ n ih =>
    intro s t hs hrun
    obtain ⟨u, hstep, hrun⟩ := run_succ_iff.mp hrun
    exact ih (hkeeps s u hs hstep) hrun

/-- A halted block that meets the invariant, with the encoder and the toggle mode of `s` (60_exceptions.md R171). -/
structure HaltedLike (s t : State) : Prop where
  inv : Inv t
  exec : t.execSt = .run
  tie : t.tie = false
  cie : t.cie = false
  encoder : SameEncoder s t
  toggle : t.toggle = s.toggle

/-- With nothing armed nothing is accepted, so only the timer, the latch and the power collapse act (R171). -/
theorem haltedLike_step (h : HaltedLike s t) (hstep : step t = .next u) : HaltedLike s u := by
  have hinv := everyStepKeepsTheInvariant t u h.inv hstep
  cases stepCase_of_step hstep with
  | collapse | noAccept => exact ⟨hinv, h.exec, h.tie, h.cie, h.encoder, h.toggle⟩
  | reservedExec _ hx | boot _ hx | preamble _ hx => exact absurd (h.exec.symm.trans hx) nofun
  | bothArmed hboth => exact absurd hboth (not_acceptsBoth_of_inv h.inv)
  | timer hacc => exact absurd ((tie_of_acceptsTimer hacc).symm.trans h.tie) nofun
  | comparator hacc => exact absurd ((cie_of_acceptsComparator hacc).symm.trans h.cie) nofun

/-- Settles O42: `HaltedLike` holds at the start and every step keeps it (60_exceptions.md R171). -/
theorem haltedBlockStaysHalted : Obligations.HaltedBlockStaysHalted := by
  intro n s t h hhalted hrun
  obtain ⟨hidle, -⟩ := hhalted
  simp only [inMode, Bool.and_eq_true, beq_iff_eq, Bool.not_eq_true'] at hidle
  obtain ⟨⟨hexec, htie⟩, hcie⟩ := hidle
  have hstart : HaltedLike s s := ⟨h, hexec, htie, hcie, SameEncoder.refl s, rfl⟩
  have hend : HaltedLike s t := run_keeps (fun _ _ => haltedLike_step) hstart hrun
  have hdisarmed := inDisarmed_of_inv hend.inv hend.exec hend.tie
  have hmode : inMode .idle t = true := by simp [inMode, hend.exec, hend.tie, hend.cie]
  exact ⟨⟨hmode, (sound_of_inv hend.inv).fault⟩, hdisarmed.key, hend.encoder, hend.toggle, hend.tie, hend.cie⟩

/-! ### The monitor -/

/-- Only an accepted comparator interrupt runs PL.FIRE: the other two sources decode to other operations
(30_encoding.md R72). -/
theorem cie_of_runs_plFire (h : Runs s ["PL.FIRE"]) : s.cie = true := by
  obtain ⟨i, hop, hname⟩ := h
  obtain ⟨-, -, hd⟩ | ⟨-, hd⟩ | ⟨hacc, -⟩ := stepOp_cases hop
  · rw [decode_osw_reset] at hd
    cases hd
    simp [Instr.mnemonic] at hname
  · rw [decode_osw_timer] at hd
    repeat' split at hd
    all_goals
      cases hd
      try simp [Instr.mnemonic] at hname
  · exact cie_of_acceptsComparator hacc

/-- Once the up command is selected, a disarmed monitor is not armed again: only DELAY.FAILSAFE arms it, and it needs
the down command (41_encoder.md R108, 42_power_loss.md R132). -/
theorem monitor_stays_disarmed (hlowering : s.lowering = false) (hcie : s.cie = false) (h : step s = .next t) :
    t.lowering = false ∧ t.cie = false ∧ (s.cif = true → t.cif = true) := by
  have hlatched : s.cif = true → (afterFront s).cif = true := fun hcif => by simp [afterFront, hcif]
  cases stepCase_of_step h with
  | collapse | reservedExec => exact ⟨hlowering, hcie, id⟩
  | boot | noAccept | bothArmed => exact ⟨hlowering, hcie, hlatched⟩
  | preamble _ _ _ htick => cases htick <;> exact ⟨hlowering, hcie, hlatched⟩
  | timer _ _ hentry =>
    cases hentry with
    | delayFailsafe _ _ _ hdown => exact absurd (hdown.symm.trans hlowering) nofun
    | on | offNext | offEnd | delayWait | delayNext | delayHalt | reservedPhase => exact ⟨hlowering, hcie, hlatched⟩
  | comparator hacc => exact absurd ((cie_of_acceptsComparator hacc).symm.trans hcie) nofun

/-- Settles O43: the disarmed monitor of the up burst stays disarmed through every step, and PL.FIRE needs it armed
(42_power_loss.md R132). -/
theorem monitorFiresAtMostOnce : Obligations.MonitorFiresAtMostOnce := by
  intro n s t hlowering hcie hrun
  have hkeeps : ∀ u v : State, u.lowering = false ∧ u.cie = false ∧ (s.cif = true → u.cif = true) →
      step u = .next v → v.lowering = false ∧ v.cie = false ∧ (s.cif = true → v.cif = true) := by
    rintro u v ⟨hlowering, hcie, hcif⟩ hstep
    obtain ⟨hlowering', hcie', hlatched⟩ := monitor_stays_disarmed hlowering hcie hstep
    exact ⟨hlowering', hcie', hlatched ∘ hcif⟩
  obtain ⟨hlowering', hcie', hcif'⟩ := run_keeps hkeeps ⟨hlowering, hcie, id⟩ hrun
  exact ⟨hlowering', hcie', hcif', fun hfires => absurd ((cie_of_runs_plFire hfires).symm.trans hcie') nofun⟩

/-- Settles O44: the edge is pending at the accept step, and the timer is not armed, so the step is PL.FIRE
(42_power_loss.md R130, R133). -/
theorem armedMonitorFiresOnAnEdge : Obligations.ArmedMonitorFiresOnAnEdge := by
  intro s h hr hmode hdraw hedge
  simp only [inMode, Bool.and_eq_true, beq_iff_eq] at hmode
  obtain ⟨hexec, hcie⟩ := hmode
  have htie := tie_eq_false_of_cie h hcie
  have hd := inDisarmed_of_inv h hexec htie
  have hwf := (sound_of_inv h).wf
  have hacc : AcceptsComparator s := by
    have hcif : (s.cif || (nextEnv s).fall) = true := Bool.or_eq_true_iff.mpr hedge
    refine ⟨hr, hexec, ?_, hd.gie, ?_, ?_⟩ <;> rw [atSequencer_eq]
    · exact hdraw
    · simp [timerRequest, afterFront, htie]
    · simp [comparatorRequest, afterFront, hcie, hcif]
  refine ⟨preambleStart .pl { atAccept s with cif := false, cie := false }, ?_, SameEncoder.refl s, hd.fresh,
    hd.monitor hcie, rfl, rfl, htie, hd.toggle, rfl, rfl, rfl, trunc_preT0 hwf, rfl⟩
  rw [step_of_acceptsComparator hacc, enter_comparator_next, atSequencer_eq]
  rfl

end Sys2Proof.Proofs

/-! The timer and the preamble (60_exceptions.md R141; 40_preamble.md R92 to R96): the interval to the next match, the
ticks of one hold, and the output of a whole preamble. -/

namespace Sys2Proof.Proofs

open Sys2Proof.Machine Sys2Proof.Safety

variable {s t u : State} {k : Nat}

/-! ### The interval to the next match -/

section Interval

variable (htcnt : s.tcnt < 2 ^ s.cfg.tw) (hocr : s.ocr < 2 ^ s.cfg.tw)
include htcnt

theorem ticksToMatch_pos : 1 ≤ ticksToMatch s := by
  rw [ticksToMatch]
  split <;> omega

include hocr

/-- Before the match the counter, wrapped or not, has not reached the threshold (60_exceptions.md R141). -/
theorem count_ne_ocr (hpos : 1 ≤ k) (hk : k < ticksToMatch s) : (s.tcnt + k) % 2 ^ s.cfg.tw ≠ s.ocr := by
  simp only [ticksToMatch] at hk
  generalize 2 ^ s.cfg.tw = w at *
  by_cases hwrap : s.tcnt + k < w
  · rw [Nat.mod_eq_of_lt hwrap]
    split at hk <;> omega
  · rw [Nat.mod_eq_sub_mod (by omega), Nat.mod_eq_of_lt (by split at hk <;> omega)]
    split at hk <;> omega

theorem count_eq_ocr : (s.tcnt + ticksToMatch s) % 2 ^ s.cfg.tw = s.ocr := by
  rw [ticksToMatch]
  split
  case isTrue hlt => rw [Nat.add_sub_cancel' hlt.le, Nat.mod_eq_of_lt hocr]
  case isFalse =>
    rw [← Nat.add_assoc, Nat.add_sub_cancel' htcnt.le, Nat.add_mod_left, Nat.mod_eq_of_lt hocr]

end Interval

/-- Counting on from a count that is already reduced (00_scope.md R11). -/
theorem inc_mod (W v k : Nat) : inc W ((v + k) % 2 ^ W) = (v + (k + 1)) % 2 ^ W := by
  rw [inc, Nat.mod_add_mod, Nat.add_assoc]

/-- Before the match the timer only counts (60_exceptions.md R141). -/
theorem timerTick_iterate (htcnt : s.tcnt < 2 ^ s.cfg.tw) (hocr : s.ocr < 2 ^ s.cfg.tw) (hk : k < ticksToMatch s) :
    timerTick^[k] s = { s with tcnt := (s.tcnt + k) % 2 ^ s.cfg.tw } := by
  induction k with
  | zero => rw [Function.iterate_zero, id, Nat.add_zero, Nat.mod_eq_of_lt htcnt]
  | succ k ih =>
    have hno := count_ne_ocr htcnt hocr (Nat.succ_pos k) hk
    rw [← inc_mod] at hno ⊢
    rw [Function.iterate_succ_apply', ih (Nat.lt_of_succ_lt hk), timerTick_eq, if_neg hno]

/-- Settles O23: the last count of the interval is the first that reaches the threshold (60_exceptions.md R141). -/
theorem nextMatchComesAfterTheInterval : Obligations.NextMatchComesAfterTheInterval := by
  intro s htcnt hocr
  refine ⟨fun k => timerTick_iterate htcnt hocr, ?_⟩
  have hmatch := count_eq_ocr htcnt hocr
  obtain ⟨k, hk⟩ := Nat.exists_eq_succ_of_ne_zero (Nat.ne_of_gt (ticksToMatch_pos htcnt))
  rw [hk, Nat.succ_eq_add_one, ← inc_mod] at hmatch
  rw [hk, Function.iterate_succ_apply', timerTick_iterate htcnt hocr (by omega), timerTick_eq, if_pos hmatch]

/-! ### One tick of a hold -/

/-- The last tick of a hold but the last (40_preamble.md R92). -/
theorem preambleTick_of_nextHold (hwf : s.cfg.wf = true) (hcnt : s.preCnt = 1) (hmore : s.preStep.toNat < 3) :
    preambleTick s = { s with
      preStep := s.preStep + 1, preCnt := preTime s.cfg (s.preStep + 1), key := preLevel (s.preStep + 1) } := by
  rw [preambleTick_eq, hcnt, if_pos (dec_one _), if_pos hmore, trunc_preTime hwf]

/-- Settles O24: below the last tick of a hold the count does not reach zero; at it the next hold begins
(40_preamble.md R92). -/
theorem preambleTickCountsAndMovesOn : Obligations.PreambleTickCountsAndMovesOn := by
  intro s hwf hfit
  refine ⟨fun hcnt => ?_, fun hcnt hstep => ?_, fun hcnt hstep => ?_, fun hcnt hstep => ?_⟩
  · have hdec : dec s.cfg.pw s.preCnt = s.preCnt - 1 := dec_of_pos (by omega) hfit
    rw [preambleTick_eq, hdec, if_neg (by omega)]
  all_goals
    rw [preambleTick_of_nextHold hwf hcnt (by rw [hstep]; decide), hstep]
    rfl

/-- Settles O25: the last hold ends with its count at zero, and the initial delay fits the compare register
(40_preamble.md R93). -/
theorem preambleEndArmsTheTimer : Obligations.PreambleEndArmsTheTimer := by
  intro s hwf hcnt hstep
  rw [preambleTick_eq, hcnt, hstep, if_pos (dec_one _), if_neg (by decide), trunc_initDelay hwf]

/-! ### Runs under a power supply that holds -/

theorem run_add {m n : Nat} (hm : Sys2Proof.core.run m s = .next t) (hn : Sys2Proof.core.run n t = .next u) :
    Sys2Proof.core.run (m + n) s = .next u := by
  induction m generalizing s with
  | zero =>
    obtain rfl := Host.Outcome.next.inj hm
    rwa [Nat.zero_add]
  | succ m ih =>
    obtain ⟨v, hstep, hrun⟩ := run_succ_iff.mp hm
    rw [Nat.add_right_comm]
    exact run_succ_iff.mpr ⟨v, hstep, ih hrun⟩

theorem run_one (h : step s = .next t) : Sys2Proof.core.run 1 s = .next t := run_succ_iff.mpr ⟨t, h, rfl⟩

/-- The block steps and the environment never cuts its power (60_exceptions.md R160, R161). -/
structure Powered (s : State) : Prop where
  wf : s.cfg.wf = true
  fault : s.fault = .empty
  power : s.power = true
  holds : PowerHolds s

theorem Powered.ready (h : Powered s) : Ready s := by
  refine ⟨h.wf, h.fault, h.power, ?_⟩
  cases hs : s.script with
  | nil => simp [nextEnv, hs, Env.quiet]
  | cons e rest =>
    have he := h.holds e (by simp [hs])
    simpa [nextEnv, hs] using he

/-- The tail of a script that holds the power holds it. -/
theorem Powered.holds_tail (h : Powered s) : ∀ e ∈ s.script.tail, e.powerOff = false :=
  fun e he => h.holds e (List.mem_of_mem_tail he)

/-! ### The whole preamble -/

/-- The ticks from the start of a preamble to the end of hold `i` (40_preamble.md R94). -/
def holdEnd (c : Config) (i : BitVec 2) : Nat :=
  match i.toNat with
  | 0 => c.preT0
  | 1 => c.preT0 + c.preT1
  | 2 => c.preT0 + c.preT1 + c.preT2
  | _ => c.preT0 + c.preT1 + c.preT2 + c.preT3

theorem holdEnd_succ (c : Config) {i : BitVec 2} (h : i.toNat < 3) :
    holdEnd c (i + 1) = holdEnd c i + preTime c (i + 1) := by
  obtain rfl | rfl | rfl | rfl := source_cases i
  · rfl
  · rfl
  · rfl
  · exact absurd h (by decide)

theorem holdEnd_last (c : Config) {i : BitVec 2} (h : ¬ i.toNat < 3) : holdEnd c i = preTotal c := by
  obtain rfl | rfl | rfl | rfl := source_cases i
  · exact absurd (by decide) h
  · exact absurd (by decide) h
  · exact absurd (by decide) h
  · rfl

theorem holdEnd_le_preTotal (c : Config) (i : BitVec 2) : holdEnd c i ≤ preTotal c := by
  rw [preTotal, holdEnd]
  split <;> omega

/-- The level of hold `i` is the level of each of its ticks (40_preamble.md R94). -/
theorem preLevel_eq_preambleLevel {c : Config} {i : BitVec 2} (hlt : k < holdEnd c i)
    (hle : holdEnd c i ≤ k + preTime c i) : preLevel i = preambleLevel c k := by
  obtain rfl | rfl | rfl | rfl := source_cases i <;> simp [holdEnd, preTime] at hlt hle <;>
    simp [preLevel, preambleLevel] <;> omega

/-- `t` is `k` ticks into the preamble that `s` starts (40_preamble.md R92, R95). -/
structure PreambleAt (s : State) (k : Nat) (t : State) : Prop where
  powered : Powered t
  cfg : t.cfg = s.cfg
  exec : t.execSt = .preamble
  encoder : SameEncoder s t
  tie : t.tie = s.tie
  cie : t.cie = s.cie
  gie : t.gie = s.gie
  ctx : t.preCtx = s.preCtx
  toggle : t.toggle = false
  key : t.key = preLevel t.preStep
  count_pos : 1 ≤ t.preCnt
  count_le : t.preCnt ≤ preTime s.cfg t.preStep
  elapsed : k + t.preCnt = holdEnd s.cfg t.preStep

/-- `t` is the end of the preamble that `s` starts (40_preamble.md R93, R96). -/
structure PreambleOver (s t : State) : Prop where
  exec : t.execSt = .run
  encoder : SameEncoder s t
  cie : t.cie = s.cie
  key : t.key = false
  tie : t.tie = true
  tif : t.tif = false
  toggle : t.toggle = true
  tcnt : t.tcnt = 0
  ocr : t.ocr = s.cfg.initDelay
  gie : t.gie = true ↔ s.preCtx = .boot ∨ s.gie = true

theorem PreambleAt.lt (h : PreambleAt s k t) : k < preTotal s.cfg := by
  have hpos := h.count_pos
  have helapsed := h.elapsed
  have hle := holdEnd_le_preTotal s.cfg t.preStep
  omega

theorem PreambleAt.level (h : PreambleAt s k t) : t.key = preambleLevel s.cfg k := by
  have hpos := h.count_pos
  have hle := h.count_le
  have helapsed := h.elapsed
  rw [h.key]
  exact preLevel_eq_preambleLevel (by omega) (by omega)

/-- A tick of the preamble is the next tick of it, or its end after `ΣPRE` ticks (40_preamble.md R92, R93). -/
theorem PreambleAt.next (h : PreambleAt s k t) :
    ∃ u, step t = .next u ∧ (PreambleAt s (k + 1) u ∨ (k + 1 = preTotal s.cfg ∧ PreambleOver s u)) := by
  have hwf : s.cfg.wf = true := h.cfg ▸ h.powered.wf
  have hpos := h.count_pos
  have hle := h.count_le
  have helapsed := h.elapsed
  have hrange := preTime_range hwf t.preStep
  have hdec : dec t.cfg.pw t.preCnt = t.preCnt - 1 := by
    rw [h.cfg]
    exact dec_of_pos hpos (by omega)
  have hpowered := h.powered
  have htail := hpowered.holds_tail
  have htick := holdTick_preambleTick (afterFront t)
  refine ⟨preambleTick (afterFront t), by rw [step_of_preamble hpowered.ready h.exec, atSequencer_eq], ?_⟩
  generalize preambleTick (afterFront t) = u at htick
  cases htick with
  | count hcnt =>
    replace hcnt : dec t.cfg.pw t.preCnt ≠ 0 := hcnt
    refine .inl ⟨⟨hpowered.wf, hpowered.fault, hpowered.power, htail⟩, h.cfg, h.exec, h.encoder, h.tie, h.cie, h.gie,
      h.ctx, h.toggle, (timerTick_key_of_toggle_off h.toggle).trans h.key, Nat.pos_of_ne_zero hcnt, ?_, ?_⟩
    · change dec t.cfg.pw t.preCnt ≤ preTime s.cfg t.preStep
      omega
    · change k + 1 + dec t.cfg.pw t.preCnt = holdEnd s.cfg t.preStep
      omega
  | nextHold hcnt hmore =>
    replace hcnt : dec t.cfg.pw t.preCnt = 0 := hcnt
    replace hmore : t.preStep.toNat < 3 := hmore
    have hload : trunc t.cfg.pw (preTime t.cfg (t.preStep + 1)) = preTime s.cfg (t.preStep + 1) := by
      rw [h.cfg]
      exact trunc_preTime hwf _
    have hnext := preTime_range hwf (t.preStep + 1)
    refine .inl ⟨⟨hpowered.wf, hpowered.fault, hpowered.power, htail⟩, h.cfg, h.exec, h.encoder, h.tie, h.cie, h.gie,
      h.ctx, h.toggle, rfl, hnext.1.trans_eq hload.symm, hload.le, ?_⟩
    change k + 1 + trunc t.cfg.pw (preTime t.cfg (t.preStep + 1)) = holdEnd s.cfg (t.preStep + 1)
    rw [hload, holdEnd_succ _ hmore]
    omega
  | finish hcnt hlast =>
    replace hcnt : dec t.cfg.pw t.preCnt = 0 := hcnt
    replace hlast : ¬ t.preStep.toNat < 3 := hlast
    have hload : trunc t.cfg.tw t.cfg.initDelay = s.cfg.initDelay := by
      rw [h.cfg]
      exact trunc_initDelay hwf
    rw [holdEnd_last _ hlast] at helapsed
    refine .inr ⟨by omega, rfl, h.encoder, h.cie, rfl, rfl, rfl, rfl, rfl, hload, ?_⟩
    change (if t.preCtx = .boot then true else t.gie) = true ↔ _
    rw [h.ctx, h.gie]
    split <;> simp_all

/-- After `k` ticks the preamble is in its tick `k`, or it is over (40_preamble.md R94, R96). -/
theorem preambleAt_run (h : PreambleAt s 0 s) (hk : k ≤ preTotal s.cfg) :
    ∃ t, Sys2Proof.core.run k s = .next t ∧ (PreambleAt s k t ∨ (k = preTotal s.cfg ∧ PreambleOver s t)) := by
  induction k with
  | zero => exact ⟨s, rfl, .inl h⟩
  | succ k ih =>
    obtain ⟨t, hrun, hat | ⟨hover, -⟩⟩ := ih (Nat.le_of_succ_le hk)
    · obtain ⟨u, hstep, hu⟩ := hat.next
      exact ⟨u, run_add hrun (run_one hstep), hu⟩
    · omega

/-- Settles O26: the start of a preamble is its tick 0; its ticks have the level of their hold, and its end the low level
of the last one (40_preamble.md R94, R95, R96). -/
theorem preambleEmitsItsFourHolds : Obligations.PreambleEmitsItsFourHolds := by
  intro s hwf hfault hpower hholds hexec hstep hcnt hkey htoggle k hk
  have hrange : 1 ≤ s.cfg.preT0 ∧ _ := preTime_range hwf 0
  have hstart : PreambleAt s 0 s := by
    refine ⟨⟨hwf, hfault, hpower, hholds⟩, rfl, hexec, SameEncoder.refl s, rfl, rfl, rfl, rfl, htoggle, ?_, ?_, ?_, ?_⟩
    · rw [hstep, hkey]
      rfl
    · omega
    · rw [hstep, hcnt]
      exact Nat.le_refl _
    · rw [hstep, hcnt]
      exact Nat.zero_add _
  obtain ⟨t, hrun, hat | ⟨rfl, hover⟩⟩ := preambleAt_run hstart hk
  · have hlt := hat.lt
    exact ⟨t, hrun, hat.level, hat.encoder, hat.cie, fun _ => ⟨hat.exec, hat.tie, hat.toggle⟩, fun heq => by omega⟩
  · refine ⟨t, hrun, ?_, hover.encoder, hover.cie, fun hlt => by omega, fun _ => ⟨hover.exec, hover.tie, hover.tif,
      hover.toggle, hover.tcnt, hover.ocr, hover.gie⟩⟩
    rw [hover.key, preambleLevel, preTotal]
    simp
    omega

end Sys2Proof.Proofs

/-! The output follows the phase while the latency is below every programmed interval (10_state.md R43,
70_reset_and_hazards.md R191): what a tick's front sub-steps leave, and what the operation of a match makes of it. -/

namespace Sys2Proof.Proofs

open Sys2Proof.Machine Sys2Proof.Safety

variable {s t u : State}

/-- What the sequencer's sub-step finds in mode Transmitting: no match waits, the count is below the threshold and the
pin is high exactly in phase OFF; or one does, the pin already has the level of the interval it began, and the counter
has counted the held ticks (10_state.md R43; log entry 3). -/
abbrev FrontSynced (s : State) : Prop :=
  ((timerTick s).tif = false ∧ (timerTick s).tcnt < s.ocr ∧ ((timerTick s).key = true ↔ s.phase = .off)) ∨
  ((timerTick s).tif = true ∧ (timerTick s).tcnt = s.held ∧ ((timerTick s).key = true ↔ s.phase = .on))

/-- In mode Transmitting an interrupt waits exactly while `TIF` is set: line C is not armed (10_state.md R41). -/
theorem InTransmitting.waiting (h : InTransmitting s) : interruptWaiting s = s.tif := by
  simp [interruptWaiting, timerRequest, comparatorRequest, h.gie, h.tie, h.cie]

/-- A match inverts the pin in phases ON and OFF, and leaves it low in DELAY (41_encoder.md R104, R106). -/
theorem key_after_match (h : InTransmitting s) (hkey : s.key = true ↔ s.phase = .off) :
    (if s.toggle = true then !s.key else s.key) = true ↔ s.phase = .on := by
  cases hphase : s.phase with
  | on => simpa [h.framing (by simp [hphase]), hphase] using hkey
  | off => simpa [h.framing (by simp [hphase]), hphase] using hkey
  | delay =>
    obtain ⟨-, htoggle, hlow, -⟩ := h.delaying hphase
    simp [htoggle, hlow]
  | reserved => exact absurd hphase h.phase

theorem frontSynced_of_synced (hs : Sound s) (h : InTransmitting s) (hsync : Synced s) : FrontSynced s := by
  obtain ⟨hlat, hcnt, hidle, hwait⟩ := hsync h.exec h.tie
  obtain ⟨hbound, hzero⟩ := hs.held
  obtain ⟨-, -, -, -, hocr, -⟩ := hs.fits
  have hinc : inc s.cfg.tw s.tcnt = s.tcnt + 1 := inc_of_lt (by omega)
  rw [h.waiting] at hzero
  rw [FrontSynced, timerTick_tif, timerTick_tcnt, timerTick_key, hinc]
  cases htif : s.tif with
  | true =>
    obtain ⟨hkey, hheld⟩ := hwait htif
    have hno : s.tcnt + 1 ≠ s.ocr := by omega
    simp only [hno, if_false, false_and]
    exact .inr ⟨rfl, hheld, hkey⟩
  | false =>
    have hkey := hidle htif
    by_cases hmatch : s.tcnt + 1 = s.ocr
    · simp only [hmatch, if_true, true_and]
      exact .inr ⟨by simp, (hzero htif).symm, key_after_match h hkey⟩
    · simp only [hmatch, if_false, false_and]
      exact .inl ⟨by simp, by omega, hkey⟩

theorem latMax_lt_dOn {c : Config} (h : LatencyBelowIntervals c) (b : Bool) : c.latMax < dOn c b := by
  obtain ⟨hlong, hshort, -⟩ := h
  cases b
  · exact hshort
  · exact hlong

theorem latMax_lt_dOff {c : Config} (h : LatencyBelowIntervals c) (b : Bool) : c.latMax < dOff c b := by
  obtain ⟨-, -, hlong, hshort, -⟩ := h
  cases b
  · exact hlong
  · exact hshort

/-- The operation of a match programs an interval above the latency and moves to the phase of the level the match gave
the pin (41_encoder.md R102 to R108). -/
theorem synced_of_timerEntry (hwf : u.cfg.wf = true) (hlat : LatencyBelowIntervals u.cfg) (hlt : u.cfg.latMax < u.ocr)
    (hcnt : u.tcnt ≤ u.cfg.latMax) (hkey : u.key = true ↔ u.phase = .on) (hphase : u.phase ≠ .reserved)
    (hentry : TimerEntry u t) : Synced t := by
  have hlow : u.phase ≠ .on → u.key = false := fun hno => Bool.eq_false_iff.mpr (mt hkey.mp hno)
  cases hentry with
  | on hon =>
    have hload := trunc_dOn hwf (lowBit u)
    have hint := latMax_lt_dOn hlat (lowBit u)
    intro _ _
    refine ⟨?_, ?_, fun _ => iff_of_true (hkey.mpr hon) rfl, nofun⟩ <;> simp only [hload] <;> omega
  | offNext hoff =>
    have hload := trunc_dOff hwf (lowBit u)
    have hint := latMax_lt_dOff hlat (lowBit u)
    intro _ _
    refine ⟨?_, ?_, fun _ => iff_of_false (by simp [hlow, hoff]) nofun, nofun⟩ <;> simp only [hload] <;> omega
  | offEnd =>
    have hload := trunc_tIdle hwf
    obtain ⟨-, -, -, -, hint, -⟩ := hlat
    intro _ _
    refine ⟨?_, ?_, fun _ => iff_of_false nofun nofun, nofun⟩ <;> simp only [hload] <;> omega
  | delayWait hdelay =>
    exact fun _ _ => ⟨hlt, hcnt.trans_lt hlt, fun _ => iff_of_false (by simp [hlow, hdelay]) (by simp [hdelay]), nofun⟩
  | delayNext hdelay =>
    exact fun _ _ => ⟨hlt, hcnt.trans_lt hlt, fun _ => iff_of_false (by simp [hlow, hdelay]) nofun, nofun⟩
  | delayHalt | delayFailsafe => exact nofun
  | reservedPhase hres => exact absurd hres hphase

/-- Settles O32: a held match counts on from the match, an accepted one finds the counter at most at the latency bound,
below the interval it programs (10_state.md R43, 70_reset_and_hazards.md R191). -/
theorem outputFollowsThePhase : Obligations.OutputFollowsThePhase := by
  intro s t hlat h hsync hstep
  have hs := sound_of_inv h
  cases stepCase_of_step hstep with
  | collapse | reservedExec => exact hsync
  | boot | comparator => exact nofun
  | preamble _ hx _ htick =>
    have hp := inPreamble_of_inv h hx
    cases htick with
    | count | nextHold => exact fun hrun => absurd (hx.symm.trans hrun) nofun
    | finish =>
      have hload := trunc_initDelay hs.wf
      obtain ⟨-, -, -, -, -, hint⟩ := hlat
      intro _ _
      have hno : (afterFront s).phase ≠ .off := by simp [afterFront, hp.fresh.1]
      refine ⟨?_, ?_, fun _ => iff_of_false nofun hno, nofun⟩ <;> simp only [afterFront, hload] <;> omega
  | noAccept n _ hx _ _ hheld =>
    intro _ htie
    have htr := inTransmitting_of_inv h hx htie
    obtain ⟨hlt, -⟩ := hsync hx htie
    have hwaiting := (inTransmitting_afterFront (afterFront s).held htr).waiting
    obtain ⟨hidle, hcnt, hkey⟩ | ⟨hwait, hcnt, hkey⟩ := frontSynced_of_synced hs htr hsync
    · exact ⟨hlt, hcnt, fun _ => hkey, fun hno => absurd (hno.symm.trans hidle) nofun⟩
    · obtain ⟨hno, -⟩ | ⟨-, hbound, rfl⟩ := hheld
      · exact absurd (hno.symm.trans (hwaiting.trans hwait)) nofun
      · refine ⟨hlt, ?_, fun hno => absurd (hno.symm.trans hwait) nofun, fun _ => ⟨hkey, ?_⟩⟩
        · change (timerTick s).tcnt < s.ocr
          omega
        · change (timerTick s).tcnt + 1 = s.held + 1
          omega
  | bothArmed hboth => exact absurd hboth (not_acceptsBoth_of_inv h)
  | timer hacc _ hentry =>
    have htie := tie_of_acceptsTimer hacc
    obtain ⟨-, hx, -, -, hrequest, -⟩ := hacc
    have htr := inTransmitting_of_inv h hx htie
    obtain ⟨hlt, -⟩ := hsync hx htie
    rw [atSequencer_eq, timerRequest, Bool.and_eq_true] at hrequest
    obtain ⟨-, hset⟩ := hrequest
    obtain ⟨hidle, -⟩ | ⟨-, hcnt, hkey⟩ := frontSynced_of_synced hs htr hsync
    · exact absurd (hset.symm.trans hidle) nofun
    · exact synced_of_timerEntry (u := atAccept s) hs.wf hlat hlt (hcnt.le.trans hs.held.1) hkey htr.phase hentry

end Sys2Proof.Proofs

/-! The waveform of a frame with zero latency (41_encoder.md R110, R112, R114): what one interval does, then the bits of a
frame, the gap after it, and the frame period. -/

namespace Sys2Proof.Proofs

open Sys2Proof.Machine Sys2Proof.Safety

variable {s t u : State} {k : Nat}

/-! ### One interval -/

/-- The encoder runs in the ideal block, and the counter has just matched (41_encoder.md R110). -/
structure AtMatch (s : State) : Prop where
  powered : Powered s
  fits : Fits s
  latMax : s.cfg.latMax = 0
  exec : s.execSt = .run
  gie : s.gie = true
  tie : s.tie = true
  tif : s.tif = false
  cie : s.cie = false
  tcnt : s.tcnt = 0

/-- A script that never cuts the power (60_exceptions.md R161). -/
abbrev EnvHolds (env : List Env) : Prop := ∀ e ∈ env, e.powerOff = false

/-- `s` with another count, and with what the environment may have changed meanwhile. -/
def counted (s : State) (n : Nat) (cif : Bool) (env : List Env) (held : Nat) : State :=
  { s with tcnt := n, cif := cif, script := env, held := held }

/-- `s` at the next match, when the operation it accepts starts: in toggle mode the pin has moved. -/
def matched (s : State) (cif : Bool) (env : List Env) : State :=
  { s with tcnt := 0, key := if s.toggle then !s.key else s.key, tif := false, cif := cif, script := env, held := 0 }

theorem powered_counted {n held : Nat} {cif : Bool} {env : List Env} (h : Powered s) (henv : EnvHolds env) :
    Powered (counted s n cif env held) := ⟨h.wf, h.fault, h.power, henv⟩

/-- With zero latency every draw is taken as true (60_exceptions.md R155). -/
theorem acceptDraw_of_ideal {env : Env} (h : u.cfg.latMax = 0) : acceptDraw env u = true := by
  simp [acceptDraw, h]

/-- Before the match nothing happens but the count (60_exceptions.md R141). -/
theorem counted_run (h : AtMatch s) (hk : k < s.ocr) :
    ∃ cif env held, EnvHolds env ∧ Sys2Proof.core.run k s = .next (counted s k cif env held) := by
  induction k with
  | zero =>
    have hsame : counted s 0 s.cif s.script s.held = s := by rw [counted, ← h.tcnt]
    exact ⟨s.cif, s.script, s.held, h.powered.holds, by rw [hsame]; rfl⟩
  | succ k ih =>
    obtain ⟨cif, env, held, henv, hrun⟩ := ih (Nat.lt_of_succ_lt hk)
    obtain ⟨-, -, -, -, hocr, -⟩ := h.fits
    have hp : Powered (counted s k cif env held) := powered_counted h.powered henv
    have hinc : inc s.cfg.tw k = k + 1 := inc_of_lt (by omega)
    have hno : inc (counted s k cif env held).cfg.tw (counted s k cif env held).tcnt ≠ (counted s k cif env held).ocr := by
      change inc s.cfg.tw k ≠ s.ocr
      omega
    have htick : timerTick (counted s k cif env held) = counted s (k + 1) cif env held := by
      rw [timerTick_eq, if_neg hno]
      simp only [counted, hinc]
    have hidle : interruptWaiting (atSequencer (counted s k cif env held)) = false := by
      rw [atSequencer_eq, afterFront, htick]
      simp [interruptWaiting, timerRequest, comparatorRequest, counted, h.tif, h.cie]
    have hstep := step_of_not_waiting hp.ready h.exec hidle
    rw [atSequencer_eq, afterFront, htick] at hstep
    exact ⟨_, _, _, hp.holds_tail, run_add hrun (run_one hstep)⟩

/-- At the match the timer interrupt is accepted: the interval ends with the operation that the phase and the counters
select (60_exceptions.md R150; 41_encoder.md R101). -/
theorem matched_run (h : AtMatch s) (hocr : 1 ≤ s.ocr) :
    ∃ cif env, EnvHolds env ∧ ∀ {i : Instr} {t : State}, decode (osw .timer s) = .ok i →
      exec i (matched s cif env) = .next t → Sys2Proof.core.run s.ocr s = .next t := by
  obtain ⟨k, hk⟩ := Nat.exists_eq_succ_of_ne_zero (Nat.ne_of_gt hocr)
  obtain ⟨cif, env, held, henv, hrun⟩ := counted_run h (k := k) (by omega)
  obtain ⟨-, -, -, -, hfit, -⟩ := h.fits
  generalize hv : counted s k cif env held = v at hrun
  have hp : Powered v := hv ▸ powered_counted h.powered henv
  have htick : timerTick v = { v with tcnt := 0, key := if v.toggle then !v.key else v.key, tif := true } := by
    rw [timerTick_eq, if_pos]
    rw [← hv]
    change inc s.cfg.tw k = s.ocr
    rw [inc_of_lt (by omega), hk]
  have hfront := atSequencer_eq v
  rw [afterFront, htick] at hfront
  have hacc : AcceptsTimer v := by
    subst hv
    refine ⟨hp.ready, h.exec, acceptDraw_of_ideal ?_, h.gie, ?_, ?_⟩ <;> rw [hfront]
    · exact h.latMax
    · simp [timerRequest, counted, h.tie]
    · simp [comparatorRequest, counted, h.cie]
  refine ⟨cif || (nextEnv v).fall, v.script.tail, hp.holds_tail, fun {i t} hd hexec => ?_⟩
  have hstep : step v = exec i (matched s (cif || (nextEnv v).fall) v.script.tail) := by
    subst hv
    rw [step_of_acceptsTimer hacc, hfront]
    exact enter_of_decode hd
  rw [hk]
  exact run_add hrun (run_one (hstep.trans hexec))

/-! ### The operations of a frame -/

theorem fits_run {n : Nat} (h : Fits s) (hrun : Sys2Proof.core.run n s = .next t) : Fits t :=
  run_keeps everyStepKeepsTheWidths h hrun

/-- Whatever the operation of a match writes into the encoder, the compare register and the output mode, the counter has
just matched. -/
theorem atMatch_of_matched {cif toggle key lowering : Bool} {env : List Env} {cmd bits repeats ocr : Nat} {phase : Phase}
    (h : AtMatch s) (henv : EnvHolds env)
    (hfits : Fits { matched s cif env with
      cmd := cmd, phase := phase, bits := bits, repeats := repeats, lowering := lowering, ocr := ocr
      toggle := toggle, key := key }) :
    AtMatch { matched s cif env with
      cmd := cmd, phase := phase, bits := bits, repeats := repeats, lowering := lowering, ocr := ocr
      toggle := toggle, key := key } :=
  ⟨⟨h.powered.wf, h.powered.fault, h.powered.power, henv⟩, hfits, h.latMax, h.exec, h.gie, h.tie, rfl, h.cie, rfl⟩

section Operations

variable (h : AtMatch s) (hocr : 1 ≤ s.ocr)
include h hocr

/-- The interval that ends with ON (41_encoder.md R102). -/
theorem run_on (hphase : s.phase = .on) :
    ∃ t, Sys2Proof.core.run s.ocr s = .next t ∧ AtMatch t ∧
      ∃ cif env, t = { matched s cif env with ocr := dOn s.cfg (lowBit s), phase := .off } := by
  obtain ⟨cif, env, henv, hend⟩ := matched_run h hocr
  have hrun := hend (decode_osw_timer_of_on hphase) (execOn_of_wf (s := matched s cif env) h.powered.wf)
  exact ⟨_, hrun, atMatch_of_matched h henv (fits_run h.fits hrun), cif, env, rfl⟩

/-- The interval that ends with OFF.NEXT (41_encoder.md R103). -/
theorem run_offNext (hphase : s.phase = .off) (hbits : 2 ≤ s.bits) :
    ∃ t, Sys2Proof.core.run s.ocr s = .next t ∧ AtMatch t ∧
      ∃ cif env, t = { matched s cif env with
        bits := s.bits - 1, ocr := dOff s.cfg (lowBit s), cmd := shiftRight1 s.cmd, phase := .on } := by
  have hwf := h.powered.wf
  obtain ⟨cif, env, henv, hend⟩ := matched_run h hocr
  have hfits : Fits (matched s cif env) := by
    obtain ⟨hcmd, hb, hr, -, ho, hpre⟩ := h.fits
    exact ⟨hcmd, hb, hr, Nat.two_pow_pos _, ho, hpre⟩
  have hexec := execOffNext_of_wf (s := matched s cif env) hwf hfits
  rw [if_neg (show (matched s cif env).bits ≠ 0 from Nat.ne_of_gt (Nat.lt_of_succ_lt hbits))] at hexec
  have hrun := hend (decode_osw_timer_of_off_next hphase (flagZB_of_bits_ne_one hwf h.fits (by omega))) hexec
  exact ⟨_, hrun, atMatch_of_matched h henv (fits_run h.fits hrun), cif, env, rfl⟩

/-- The interval that ends with OFF.END (41_encoder.md R104). -/
theorem run_offEnd (hphase : s.phase = .off) (hbits : s.bits = 1) :
    ∃ t, Sys2Proof.core.run s.ocr s = .next t ∧ AtMatch t ∧
      ∃ cif env, t = { matched s cif env with
        cmd := selCmd s, bits := s.cfg.delayLen, toggle := false, key := false, ocr := s.cfg.tIdle
        phase := .delay } := by
  obtain ⟨cif, env, henv, hend⟩ := matched_run h hocr
  have hrun := hend (decode_osw_timer_of_off_end hphase (flagZB_of_bits_eq_one hbits))
    (execOffEnd_of_wf (s := matched s cif env) h.powered.wf)
  exact ⟨_, hrun, atMatch_of_matched h henv (fits_run h.fits hrun), cif, env, rfl⟩

/-- The interval that ends with DELAY.WAIT (41_encoder.md R105). -/
theorem run_delayWait (hphase : s.phase = .delay) (hbits : 2 ≤ s.bits) :
    ∃ t, Sys2Proof.core.run s.ocr s = .next t ∧ AtMatch t ∧
      ∃ cif env, t = { matched s cif env with bits := s.bits - 1 } := by
  obtain ⟨-, hfit, -⟩ := h.fits
  obtain ⟨cif, env, henv, hend⟩ := matched_run h hocr
  have hexec := execDelayWait_eq (matched s cif env)
  rw [show dec (matched s cif env).cfg.cntW (matched s cif env).bits = s.bits - 1 from
    dec_of_pos (Nat.le_of_succ_le hbits) hfit] at hexec
  have hrun := hend
    (decode_osw_timer_of_delay_wait hphase (flagZB_of_bits_ne_one h.powered.wf h.fits (by omega))) hexec
  exact ⟨_, hrun, atMatch_of_matched h henv (fits_run h.fits hrun), cif, env, rfl⟩

/-- The interval that ends with DELAY.NEXT (41_encoder.md R106). -/
theorem run_delayNext (hphase : s.phase = .delay) (hbits : s.bits = 1) (hrepeats : 2 ≤ s.repeats) :
    ∃ t, Sys2Proof.core.run s.ocr s = .next t ∧ AtMatch t ∧
      ∃ cif env, t = { matched s cif env with
        repeats := s.repeats - 1, bits := s.cfg.frameLen, phase := .on, toggle := true } := by
  have hwf := h.powered.wf
  obtain ⟨-, -, hfit, -⟩ := h.fits
  obtain ⟨cif, env, henv, hend⟩ := matched_run h hocr
  have hexec := execDelayNext_eq (matched s cif env)
  rw [show dec (matched s cif env).cfg.rptW (matched s cif env).repeats = s.repeats - 1 from
      dec_of_pos (Nat.le_of_succ_le hrepeats) hfit,
    show trunc (matched s cif env).cfg.cntW (matched s cif env).cfg.frameLen = s.cfg.frameLen from
      trunc_frameLen hwf] at hexec
  have hrun := hend (decode_osw_timer_of_delay_next hphase (flagZB_of_bits_eq_one hbits)
    (flagZR_of_repeats_ne_one hwf h.fits (by omega))) hexec
  exact ⟨_, hrun, atMatch_of_matched h henv (fits_run h.fits hrun), cif, env, rfl⟩

end Operations

/-! ### One bit -/

theorem dOn_pos {c : Config} (hwf : c.wf = true) (b : Bool) : 1 ≤ dOn c b := by
  obtain ⟨-, -, -, ⟨⟨hlong, -⟩, ⟨hshort, -⟩, -⟩, -⟩ := Config.wf_ranges hwf
  cases b
  · exact hshort
  · exact hlong

theorem dOff_pos {c : Config} (hwf : c.wf = true) (b : Bool) : 1 ≤ dOff c b := by
  obtain ⟨-, -, -, ⟨-, -, ⟨hshort, -⟩, ⟨hlong, -⟩, -⟩, -⟩ := Config.wf_ranges hwf
  cases b
  · exact hlong
  · exact hshort

theorem tIdle_pos {c : Config} (hwf : c.wf = true) : 1 ≤ c.tIdle := by
  obtain ⟨-, -, -, ⟨-, -, -, -, ⟨hidle, -⟩, -⟩, -⟩ := Config.wf_ranges hwf
  exact hidle

/-- The rising edge of a bit in a powered ideal block (41_encoder.md R110). -/
structure BitStart (s : State) : Prop where
  atMatch : AtMatch s
  edge : AtBitStart s

theorem BitStart.ocr (h : BitStart s) : s.ocr = dOn s.cfg (lowBit s) := by
  obtain ⟨-, -, -, -, -, -, -, -, -, hocr⟩ := h.edge
  exact hocr

theorem bitStart_of_edge (hp : Powered s) (hfits : Fits s) (hlat : s.cfg.latMax = 0) (h : AtBitStart s) : BitStart s := by
  obtain ⟨hexec, hgie, htie, htif, hcie, -, -, -, htcnt, -⟩ := id h
  exact ⟨⟨hp, hfits, hlat, hexec, hgie, htie, htif, hcie, htcnt⟩, h⟩

/-- The rising edge that ON begins: the pin was low before its match (41_encoder.md R102). -/
theorem bitStart_of_on (h : AtMatch s) (hocr : 1 ≤ s.ocr) (hphase : s.phase = .on) (htoggle : s.toggle = true)
    (hkey : s.key = false) :
    ∃ t, Sys2Proof.core.run s.ocr s = .next t ∧ BitStart t ∧ t.cfg = s.cfg ∧ t.bits = s.bits ∧ t.cmd = s.cmd ∧
      t.repeats = s.repeats ∧ t.lowering = s.lowering := by
  obtain ⟨t, hrun, ht, cif, env, rfl⟩ := run_on h hocr hphase
  refine ⟨_, hrun, ⟨ht, h.exec, h.gie, h.tie, rfl, h.cie, htoggle, rfl, ?_, rfl, rfl⟩, rfl, rfl, rfl, rfl, rfl⟩
  simp [matched, htoggle, hkey]

/-- The on-time of a bit but the last ends with the pin low for the off-time (41_encoder.md R103). -/
theorem onTime_run (h : BitStart s) (hbits : 2 ≤ s.bits) :
    ∃ t, Sys2Proof.core.run (dOn s.cfg (lowBit s)) s = .next t ∧ AtMatch t ∧ t.ocr = dOff s.cfg (lowBit s) ∧
      t.phase = .on ∧ t.toggle = true ∧ t.key = false ∧ t.cfg = s.cfg ∧ t.bits = s.bits - 1 ∧ t.cmd = s.cmd / 2 ∧
      t.repeats = s.repeats ∧ t.lowering = s.lowering := by
  obtain ⟨-, -, -, -, -, htoggle, hphase, hkey, -⟩ := h.edge
  have hocr := h.ocr
  have hpos := dOn_pos h.atMatch.powered.wf (lowBit s)
  obtain ⟨t, hrun, ht, cif, env, rfl⟩ := run_offNext h.atMatch (hpos.trans_eq hocr.symm) hphase hbits
  refine ⟨_, hocr ▸ hrun, ht, rfl, rfl, htoggle, ?_, rfl, rfl, rfl, rfl, rfl⟩
  simp [matched, htoggle, hkey]

/-- The interval after a match has one level (41_encoder.md R110). -/
theorem level_run (h : AtMatch s) (hk : k < s.ocr) : ∃ t, Sys2Proof.core.run k s = .next t ∧ t.key = s.key := by
  obtain ⟨cif, env, held, -, hrun⟩ := counted_run h hk
  exact ⟨_, hrun, rfl⟩

/-- One bit but the last of a frame (41_encoder.md R110). -/
theorem bit_run (h : BitStart s) (hbits : 2 ≤ s.bits) :
    ∃ t, Sys2Proof.core.run (dOn s.cfg (lowBit s) + dOff s.cfg (lowBit s)) s = .next t ∧ BitStart t ∧ t.cfg = s.cfg ∧
      t.bits = s.bits - 1 ∧ t.cmd = s.cmd / 2 ∧ t.repeats = s.repeats ∧ t.lowering = s.lowering := by
  obtain ⟨t, hrun, ht, hocr, hphase, htoggle, hkey, hcfg, htbits, htcmd, htrep, htlow⟩ := onTime_run h hbits
  have hpos := dOff_pos h.atMatch.powered.wf (lowBit s)
  obtain ⟨u, hrun', hu, hcfg', hubits, hucmd, hurep, hulow⟩ :=
    bitStart_of_on ht (hpos.trans_eq hocr.symm) hphase htoggle hkey
  rw [hocr] at hrun'
  exact ⟨u, run_add hrun hrun', hu, hcfg'.trans hcfg, hubits.trans htbits, hucmd.trans htcmd, hurep.trans htrep,
    hulow.trans htlow⟩

/-- Settles O45: the on-time and the off-time are each one interval of one level (41_encoder.md R110). -/
theorem bitEmitsItsTwoSegments : Obligations.BitEmitsItsTwoSegments := by
  intro s hwf hfault hpower hholds hlat hedge hfits hbits
  have h := bitStart_of_edge ⟨hwf, hfault, hpower, hholds⟩ hfits hlat hedge
  obtain ⟨-, -, -, -, -, -, -, hhigh, -⟩ := hedge
  refine ⟨fun k hk => ?_, fun k hk => ?_, ?_⟩
  · obtain ⟨t, hrun, hkey⟩ := level_run h.atMatch (k := k) (hk.trans_eq h.ocr.symm)
    exact ⟨t, hrun, hkey.trans hhigh⟩
  · obtain ⟨t, hrun, ht, hocr, -, -, hlow, -⟩ := onTime_run h hbits
    obtain ⟨u, hrun', hkey⟩ := level_run ht (k := k) (hk.trans_eq hocr.symm)
    exact ⟨u, run_add hrun hrun', hkey.trans hlow⟩
  · obtain ⟨t, hrun, ht, -, hrest⟩ := bit_run h hbits
    exact ⟨t, hrun, ht.edge, hrest⟩

/-! ### The gap and the frame period -/

/-- The gap after a frame: an idle tick per bit of the delay count, then the next frame is loaded (41_encoder.md R112). -/
theorem gap_run (m : Nat) : ∀ {s : State}, AtMatch s → s.phase = .delay → s.ocr = s.cfg.tIdle → s.toggle = false →
    s.key = false → s.bits = m + 1 → 2 ≤ s.repeats →
    ∃ t, Sys2Proof.core.run ((m + 1) * s.cfg.tIdle) s = .next t ∧ AtMatch t ∧ t.phase = .on ∧ t.ocr = s.cfg.tIdle ∧
      t.toggle = true ∧ t.key = false ∧ t.cfg = s.cfg ∧ t.bits = s.cfg.frameLen ∧ t.cmd = s.cmd ∧
      t.repeats = s.repeats - 1 ∧ t.lowering = s.lowering := by
  induction m with
  | zero =>
    intro s h hphase hocr htoggle hkey hbits hrepeats
    have hpos : 1 ≤ s.ocr := (tIdle_pos h.powered.wf).trans_eq hocr.symm
    obtain ⟨t, hrun, ht, cif, env, rfl⟩ := run_delayNext h hpos hphase hbits hrepeats
    rw [Nat.zero_add, Nat.one_mul]
    refine ⟨_, hocr ▸ hrun, ht, rfl, hocr, rfl, ?_, rfl, rfl, rfl, rfl, rfl⟩
    simp [matched, htoggle, hkey]
  | succ m ih =>
    intro s h hphase hocr htoggle hkey hbits hrepeats
    have hpos : 1 ≤ s.ocr := (tIdle_pos h.powered.wf).trans_eq hocr.symm
    obtain ⟨t, hrun, ht, cif, env, rfl⟩ := run_delayWait h hpos hphase (by omega)
    have hlow : (matched s cif env).key = false := by simp [matched, htoggle, hkey]
    obtain ⟨u, hrun', hu⟩ := ih ht hphase hocr htoggle hlow (by simp only [hbits]; omega) hrepeats
    rw [hocr] at hrun
    refine ⟨u, ?_, hu⟩
    rw [Nat.succ_mul, Nat.add_comm]
    exact run_add hrun hrun'

/-- The last bit of a frame and the gap, up to the first rising edge of the next frame (41_encoder.md R110, R112). -/
theorem lastBit_run (h : BitStart s) (hbits : s.bits = 1) (hrepeats : 2 ≤ s.repeats) :
    ∃ t, Sys2Proof.core.run (dOn s.cfg (lowBit s) + (s.cfg.delayLen + 1) * s.cfg.tIdle) s = .next t ∧ BitStart t ∧
      t.bits = s.cfg.frameLen ∧ t.cmd = selCmd s ∧ t.repeats = s.repeats - 1 ∧ t.lowering = s.lowering := by
  obtain ⟨-, -, -, -, -, -, hphase, -⟩ := h.edge
  have hwf := h.atMatch.powered.wf
  have hocr := h.ocr
  have hpos := dOn_pos hwf (lowBit s)
  obtain ⟨-, -, -, -, ⟨⟨hdelay, -⟩, -⟩, -⟩ := Config.wf_ranges hwf
  obtain ⟨m, hm⟩ := Nat.exists_eq_succ_of_ne_zero (Nat.ne_of_gt hdelay)
  obtain ⟨t, hrun, ht, cif, env, rfl⟩ := run_offEnd h.atMatch (hpos.trans_eq hocr.symm) hphase hbits
  obtain ⟨u, hrun', hu, huphase, huocr, hutoggle, hukey, -, hubits, hucmd, hurep, hulow⟩ :=
    gap_run m ht rfl rfl rfl rfl hm hrepeats
  have hidle : 1 ≤ u.ocr := (tIdle_pos hwf).trans_eq huocr.symm
  obtain ⟨v, hrun'', hv, -, hvbits, hvcmd, hvrep, hvlow⟩ := bitStart_of_on hu hidle huphase hutoggle hukey
  rw [hocr] at hrun
  rw [huocr] at hrun''
  refine ⟨v, ?_, hv, hvbits.trans hubits, hvcmd.trans hucmd, hvrep.trans hurep, hvlow.trans hulow⟩
  rw [hm, Nat.succ_mul (m + 1)]
  exact run_add hrun (run_add hrun' hrun'')

/-- The frame period from any of its bits (41_encoder.md R114). -/
theorem frame_run (n : Nat) : ∀ {s : State}, BitStart s → s.bits = n + 1 → 2 ≤ s.repeats →
    ∃ t, Sys2Proof.core.run
        (bitsTicks s.cfg s.cmd n + dOn s.cfg (s.cmd.testBit n) + (s.cfg.delayLen + 1) * s.cfg.tIdle) s = .next t ∧
      BitStart t ∧ t.bits = s.cfg.frameLen ∧ t.cmd = selCmd s ∧ t.repeats = s.repeats - 1 ∧
      t.lowering = s.lowering := by
  induction n with
  | zero =>
    intro s h hbits hrepeats
    rw [bitsTicks, Nat.zero_add]
    exact lastBit_run h hbits hrepeats
  | succ n ih =>
    intro s h hbits hrepeats
    obtain ⟨t, hrun, ht, hcfg, htbits, htcmd, htrep, htlow⟩ := bit_run h (by omega)
    obtain ⟨u, hrun', hu, hubits, hucmd, hurep, hulow⟩ := ih ht (by omega) (by omega)
    have hsel : selCmd t = selCmd s := by simp only [selCmd, hcfg, htlow]
    rw [hcfg, htcmd] at hrun'
    rw [bitsTicks, Nat.testBit_succ, Nat.add_assoc, Nat.add_assoc, ← Nat.add_assoc (bitsTicks _ _ n)]
    exact ⟨u, run_add hrun hrun', hu, hubits.trans (by rw [hcfg]), hucmd.trans hsel, hurep.trans (by rw [htrep]),
      hulow.trans htlow⟩

/-- Settles O46: `frame_run` from the rising edge of the bit at which `n + 1` are left (41_encoder.md R114). -/
theorem framePeriodIsTheSumOfItsIntervals : Obligations.FramePeriodIsTheSumOfItsIntervals := by
  intro n s hwf hfault hpower hholds hlat hedge hfits hbits hrepeats
  have h := bitStart_of_edge ⟨hwf, hfault, hpower, hholds⟩ hfits hlat hedge
  obtain ⟨t, hrun, ht, hrest⟩ := frame_run n h hbits hrepeats
  exact ⟨t, hrun, ht.edge, hrest⟩

end Sys2Proof.Proofs

/-! What never shows on the output (00_scope.md R6, R8, R10; 60_exceptions.md R147), by simulation: the run of a state and
the run of the same state with other words in the build and in the command element go through the same steps, as long as
the bit each operation reads is the same. -/

namespace Sys2Proof.Proofs

open Sys2Proof.Machine Sys2Proof.Safety

variable {s t u a : State} {y : Nat} {i : Instr} {env : List Env}

/-! ### Simulations -/

/-- A relation that every step keeps, between states that show and need the same, makes the outputs the same (00_scope.md
R10). -/
theorem observe_eq_of_simulation {R : State → State → Prop}
    (hsame : ∀ {s t}, R s t → t.cfg.wf = s.cfg.wf ∧ t.fault = s.fault ∧ t.power = s.power ∧ t.key = s.key)
    (hstep : ∀ {s t s'}, R s t → step s = .next s' → ∃ t', step t = .next t' ∧ R s' t') (n : Nat) :
    ∀ {s t : State}, R s t → observe n t = observe n s := by
  induction n with
  | zero => exact fun _ => rfl
  | succ n ih =>
    intro s t h
    have hstop : ∀ {u : State}, (¬ ∃ u', step u = .next u') → observe (n + 1) u = [] := by
      intro u hno
      rw [observe]
      cases hu : step u with
      | next u' => exact absurd ⟨u', hu⟩ hno
      | fault r => rfl
      | refused r => rfl
    by_cases hnext : ∃ s', step s = .next s'
    · obtain ⟨s', hs⟩ := hnext
      obtain ⟨t', ht, h'⟩ := hstep h hs
      obtain ⟨-, -, hpower, hkey⟩ := hsame h'
      simp only [observe, hs, ht, hpower, hkey, ih h']
    · have hnext' : ¬ ∃ t', step t = .next t' := by
        rintro ⟨t', ht⟩
        obtain ⟨hwf, hfault, hpower, -⟩ := step_cases ht
        obtain ⟨hwf', hfault', hpower', -⟩ := hsame h
        exact hnext (step_next (hwf' ▸ hwf) (hfault' ▸ hfault) (hpower' ▸ hpower))
      rw [hstop hnext, hstop hnext']

/-! ### The same state with other words -/

/-- The words of a build that no operation reads but to load them. -/
structure Words where
  cmdDown : Nat
  cmdUp : Nat
  clockDiv : Nat

/-- `s` with other words in its build, another script and `y` as its command word. -/
def Words.put (w : Words) (env : List Env) (y : Nat) (s : State) : State :=
  { s with
    cfg := { s.cfg with cmdDown := w.cmdDown, cmdUp := w.cmdUp, clockDiv := w.clockDiv }
    script := env, cmd := y }

variable {w : Words}

/-- The command word after an operation (41_encoder.md R103, R104, R108). -/
def cmdAfter (i : Instr) (u : State) : Nat :=
  match i with
  | .offNext _ _ _ => trunc u.cfg.cmdW (shiftRight1 u.cmd)
  | .offEnd _ _ _ => trunc u.cfg.cmdW (selCmd u)
  | .delayFailsafe _ => trunc u.cfg.cmdW u.cfg.cmdUp
  | _ => u.cmd

theorem timerTick_put (w : Words) (env : List Env) (y : Nat) (s : State) :
    timerTick (w.put env y s) = w.put env y (timerTick s) := by
  rw [timerTick_eq, timerTick_eq, apply_ite (w.put env y)]
  rfl

theorem afterFront_put (w : Words) (y : Nat) (s : State) :
    afterFront (w.put s.script y s) = w.put s.script.tail y (afterFront s) := by
  rw [afterFront, timerTick_put]
  rfl

theorem preambleTick_put (w : Words) (env : List Env) (y : Nat) (s : State) :
    preambleTick (w.put env y s) = w.put env y (preambleTick s) := by
  rw [preambleTick_eq, preambleTick_eq, apply_ite (w.put env y), apply_ite (w.put env y)]
  rfl

/-- An operation reads of the command word its low bit alone, and loads the words of the build (41_encoder.md R102 to
R108). -/
theorem exec_put (hlow : y.testBit 0 = lowBit u) (h : exec i u = .next a) :
    exec i (w.put env y u) = .next (w.put env (cmdAfter i (w.put env y u)) a) := by
  have hbit : lowBit (w.put env y u) = lowBit u := hlow
  cases i with
  | on =>
    obtain rfl := Host.Outcome.next.inj h
    rw [exec, execOn_eq, hbit]
    rfl
  | offNext =>
    obtain rfl := Host.Outcome.next.inj ((execOffNext_eq u).symm.trans h)
    rw [exec, execOffNext_eq, hbit]
    rfl
  | offEnd =>
    obtain rfl := Host.Outcome.next.inj h
    rfl
  | delayWait | delayNext | delayHalt | delayFailsafe | plFire | boot =>
    obtain rfl := Host.Outcome.next.inj h
    rfl

/-- The selector word reads of the command word its low bit alone (30_encoding.md R70). -/
theorem osw_put (src : Src) (hlow : y.testBit 0 = lowBit u) : osw src (w.put env y u) = osw src u := by
  have hbit : lowBit (w.put env y u) = lowBit u := hlow
  rw [osw, hbit]
  rfl

/-- A condition on a state and another command word for it that every sub-step keeps. -/
structure Carried (w : Words) (P : State → Nat → Prop) : Prop where
  wf : ∀ {s y env}, P s y → (w.put env y s).cfg.wf = s.cfg.wf
  lowBit : ∀ {u y}, P u y → y.testBit 0 = lowBit u
  encoder : ∀ {u a y}, P u y → SameEncoder u a → a.cfg = u.cfg → P a y
  timer : ∀ {u a y i env}, P u y → TimerEntry u a → decode (osw .timer u) = .ok i → P a (cmdAfter i (w.put env y u))

/-- `t` is `s` with the words `w` and a command word that `P` allows. -/
def LikeWith (w : Words) (P : State → Nat → Prop) (s t : State) : Prop := ∃ y, t = w.put s.script y s ∧ P s y

section Carried

variable {P : State → Nat → Prop} (hP : Carried w P)
include hP

theorem enter_timer_put (hu : P u y) (h : enter .timer u = .next a) :
    ∃ y', enter .timer (w.put env y u) = .next (w.put env y' a) ∧ P a y' := by
  have hlow := hP.lowBit hu
  cases hd : decode (osw .timer u) with
  | ok i =>
    have hd' : decode (osw .timer (w.put env y u)) = .ok i := by rw [osw_put _ hlow, hd]
    have hexec : exec i (writeTif false u) = .next a := (enter_of_decode hd).symm.trans h
    refine ⟨cmdAfter i (w.put env y u), ?_, hP.timer hu (timerEntry_of_enter h) hd⟩
    exact (enter_of_decode hd').trans (exec_put (u := writeTif false u) hlow hexec)
  | error e =>
    cases timerEntry_of_enter h with
    | reservedPhase hphase =>
      have hphase' : (w.put env y u).phase = .reserved := hphase
      refine ⟨y, ?_, hP.encoder hu (SameEncoder.refl u) rfl⟩
      rw [enter_timer_eq, hphase']
      rfl
    | on _ hop | offNext _ _ hop | offEnd _ _ hop | delayWait _ _ hop | delayNext _ _ _ hop | delayHalt _ _ _ _ hop
    | delayFailsafe _ _ _ _ _ hop => exact absurd (hop.symm.trans hd) nofun

theorem accept_put (hu : P u y) (h : accept u = .next a) :
    ∃ y', accept (w.put env y u) = .next (w.put env y' a) ∧ P a y' := by
  obtain ⟨hg, ha⟩ | ⟨hg, ht, hc, ha⟩ | ⟨hg, ht, hc, ha⟩ | ⟨hg, ht, hc, ha⟩ | ⟨hg, ht, hc, ha⟩ := accept_cases u <;>
    rw [ha] at h
  case inr.inr.inl =>
    obtain ⟨y', hn, hy'⟩ := enter_timer_put hP (env := env) hu h
    exact ⟨y', (accept_of_timer (u := w.put env y u) hg ht hc).trans hn, hy'⟩
  case inr.inr.inr.inl =>
    refine ⟨y, ?_, hP.encoder hu (enter_comparator_sameEncoder h) ?_⟩
    · rw [accept_of_comparator (u := w.put env y u) hg ht hc]
      rw [enter_comparator_next] at h ⊢
      obtain rfl := Host.Outcome.next.inj h
      rfl
    · rw [enter_comparator_next] at h
      obtain rfl := Host.Outcome.next.inj h
      rfl
  all_goals
    obtain rfl := Host.Outcome.next.inj h
    refine ⟨y, ?_, hP.encoder hu (SameEncoder.refl u) rfl⟩
  · exact accept_of_not_waiting (u := w.put env y u) (by simp [interruptWaiting, Words.put, hg])
  · exact accept_of_both (u := w.put env y u) hg ht hc
  · have hwait : interruptWaiting u = false := by simp [interruptWaiting, ht, hc]
    exact accept_of_not_waiting (u := w.put env y u) hwait

theorem runTick_put {e : Env} (hu : P u y) (h : runTick e u = .next a) :
    ∃ y', runTick e (w.put env y u) = .next (w.put env y' a) ∧ P a y' := by
  have hdraw : acceptDraw e (w.put env y u) = acceptDraw e u := rfl
  rw [runTick] at h
  rw [runTick, hdraw]
  split at h
  case isTrue hd =>
    rw [if_pos hd]
    exact accept_put hP (u := writeHeld 0 u) (hP.encoder hu (SameEncoder.refl u) rfl) h
  case isFalse hd =>
    obtain rfl := Host.Outcome.next.inj h
    rw [if_neg hd]
    exact ⟨y, rfl, hP.encoder hu (SameEncoder.refl u) rfl⟩

/-- A step carries the other words along (60_exceptions.md R160). -/
theorem step_put (hs : P s y) (h : step s = .next t) :
    ∃ y', step (w.put s.script y s) = .next (w.put t.script y' t) ∧ P t y' := by
  obtain ⟨hwf, hfault, hpower, hcases⟩ := step_cases h
  have hwf' : (w.put s.script y s).cfg.wf = true := (hP.wf hs).trans hwf
  have hready : (nextEnv s).powerOff = false → Ready (w.put s.script y s) := fun hon => ⟨hwf', hfault, hpower, hon⟩
  have hfront : atSequencer (w.put s.script y s) = w.put s.script.tail y (afterFront s) :=
    (atSequencer_eq _).trans (afterFront_put w y s)
  have hafter : P (afterFront s) y := hP.encoder hs (SameEncoder.refl s) rfl
  have hcfg := (step_cfg h).trans rfl
  have hscript := (configurationNeverChanges s t h).2
  rw [← atSequencer, atSequencer_eq] at hcases
  rw [hscript]
  obtain ⟨hoff, rfl⟩ | ⟨hon, hx, rfl⟩ | ⟨hon, hx, rfl⟩ | ⟨hon, hx, rfl⟩ | ⟨hon, hx, hrun⟩ := hcases
  · exact ⟨y, powerCollapseStopsTheTick _ hwf' hfault hpower hoff, hP.encoder hs (SameEncoder.refl s) rfl⟩
  · have hstep := (modelFaultsAreRecorded _ (hready hon)).1 hx
    refine ⟨y, hstep.trans ?_, hP.encoder hs (SameEncoder.refl s) rfl⟩
    rw [raiseFault, consumeEnv, writeScript]
    simp only [hfault]
    rfl
  · refine ⟨y, ?_, hP.encoder hafter (preambleStart_sameEncoder _ _) rfl⟩
    rw [step_of_reset (hready hon) hx, hfront]
    rfl
  · refine ⟨y, ?_, hP.encoder hafter (preambleTick_sameEncoder _) hcfg⟩
    rw [step_of_preamble (hready hon) hx, hfront, preambleTick_put]
  · obtain ⟨y', hrun', hy'⟩ := runTick_put hP (env := s.script.tail) hafter hrun
    refine ⟨y', ?_, hy'⟩
    rw [step_of_run (hready hon) hx, hfront]
    exact hrun'

/-- The output does not depend on words that are carried (00_scope.md R10). -/
theorem observe_put (n : Nat) (hs : P s y) : observe n (w.put s.script y s) = observe n s := by
  refine observe_eq_of_simulation (R := LikeWith w P) ?_ ?_ n ⟨y, rfl, hs⟩
  · rintro s t ⟨y, rfl, hy⟩
    exact ⟨hP.wf hy, rfl, rfl, rfl⟩
  · rintro s t s' ⟨y, rfl, hy⟩ hstep
    obtain ⟨y', hstep', hy'⟩ := step_put hP hy hstep
    exact ⟨_, hstep', y', rfl, hy'⟩

end Carried

/-! ### Words that only the load of a build can tell: the clock divider -/

/-- The words are those of the build, and so is the command word. -/
structure SameCommands (w : Words) (s : State) (y : Nat) : Prop where
  cmd : y = s.cmd
  down : w.cmdDown = s.cfg.cmdDown
  up : w.cmdUp = s.cfg.cmdUp

theorem carried_sameCommands (w : Words) : Carried w (SameCommands w) where
  wf := by
    intro s y env h
    have hcfg : (w.put env y s).cfg = { s.cfg with clockDiv := w.clockDiv } := by
      simp only [Words.put, h.down, h.up]
    rw [hcfg]
    rfl
  lowBit := by
    intro u y h
    rw [h.cmd]
    rfl
  encoder := by
    rintro u a y h ⟨hcmd, -⟩ hcfg
    exact ⟨h.cmd.trans hcmd.symm, h.down.trans (by rw [hcfg]), h.up.trans (by rw [hcfg])⟩
  timer := by
    intro u a y i env h hentry hd
    have hsel : selCmd (w.put env y u) = selCmd u := by
      rw [selCmd, selCmd, ← h.down, ← h.up]
      rfl
    cases hentry with
    | reservedPhase _ hop => exact absurd (hop.symm.trans hd) nofun
    | on _ hop | delayWait _ _ hop | delayNext _ _ _ hop | delayHalt _ _ _ _ hop =>
      obtain rfl := Except.ok.inj (hop.symm.trans hd)
      exact ⟨h.cmd, h.down, h.up⟩
    | offNext _ _ hop =>
      obtain rfl := Except.ok.inj (hop.symm.trans hd)
      exact ⟨congrArg (fun c => trunc u.cfg.cmdW (shiftRight1 c)) h.cmd, h.down, h.up⟩
    | offEnd _ _ hop =>
      obtain rfl := Except.ok.inj (hop.symm.trans hd)
      exact ⟨congrArg (trunc u.cfg.cmdW) hsel, h.down, h.up⟩
    | delayFailsafe _ _ _ _ _ hop =>
      obtain rfl := Except.ok.inj (hop.symm.trans hd)
      exact ⟨congrArg (trunc u.cfg.cmdW) h.up, h.down, h.up⟩

/-- Settles O49: the clock divider is a word no operation loads (00_scope.md R6). -/
theorem clockDividerNeverShows : Obligations.ClockDividerNeverShows := by
  intro n v s
  let w : Words := ⟨s.cfg.cmdDown, s.cfg.cmdUp, v⟩
  have hs : SameCommands w s s.cmd := ⟨rfl, rfl, rfl⟩
  exact observe_put (carried_sameCommands w) n hs

/-! ### Command bits above the frame -/

/-- Two words agree in the bits below `n`. -/
def AgreeBelow (n x y : Nat) : Prop := ∀ k, k < n → x.testBit k = y.testBit k

theorem agreeBelow_of_mod_eq {n x y : Nat} (h : x % 2 ^ n = y % 2 ^ n) : AgreeBelow n x y := by
  intro k hk
  have hbit := congrArg (Nat.testBit · k) h
  simpa [Nat.testBit_mod_two_pow, hk] using hbit

theorem AgreeBelow.trunc {n x y : Nat} (h : AgreeBelow n x y) (W : Nat) : AgreeBelow n (trunc W x) (trunc W y) := by
  intro k hk
  rw [Machine.trunc, Machine.trunc, Nat.testBit_mod_two_pow, Nat.testBit_mod_two_pow, h k hk]

theorem AgreeBelow.shift {n x y : Nat} (h : AgreeBelow n x y) : AgreeBelow (n - 1) (shiftRight1 x) (shiftRight1 y) := by
  intro k hk
  rw [shiftRight1, shiftRight1, ← Nat.testBit_succ, ← Nat.testBit_succ]
  exact h (k + 1) (by omega)

/-- The bits of the command word that are still sent: the bits left of the frame, and the whole frame in the gap after
it, where the command is loaded again (41_encoder.md R103, R104). -/
def sentBits (s : State) : Nat := if s.phase = .delay then s.cfg.frameLen else s.bits

/-- The words agree with the build's in the bits of a frame, and the command words in the bits still sent (00_scope.md
R8). -/
structure SameSent (w : Words) (s : State) (y : Nat) : Prop where
  wf : s.cfg.wf = true
  wf' : (w.put [] y s).cfg.wf = true
  bits_pos : 1 ≤ s.bits
  bits_fit : s.bits < 2 ^ s.cfg.cntW
  down : AgreeBelow s.cfg.frameLen w.cmdDown s.cfg.cmdDown
  up : AgreeBelow s.cfg.frameLen w.cmdUp s.cfg.cmdUp
  sent : AgreeBelow (sentBits s) y s.cmd

theorem sentBits_pos (hwf : s.cfg.wf = true) (hbits : 1 ≤ s.bits) : 1 ≤ sentBits s := by
  obtain ⟨-, ⟨hlen, -⟩, -⟩ := Config.wf_ranges hwf
  rw [sentBits]
  split
  · exact hlen
  · exact hbits

theorem sentBits_of_delay (h : s.phase = .delay) : sentBits s = s.cfg.frameLen := if_pos h

theorem sentBits_of_frame (h : s.phase ≠ .delay) : sentBits s = s.bits := if_neg h

theorem SameSent.encoder (h : SameSent w u y) (hsame : SameEncoder u a) (hcfg : a.cfg = u.cfg) : SameSent w a y := by
  obtain ⟨hcmd, hphase, hbits, -⟩ := hsame
  have hsent : sentBits a = sentBits u := by simp only [sentBits, hphase, hbits, hcfg]
  have hwords : (w.put [] y a).cfg = (w.put [] y u).cfg := by simp only [Words.put, hcfg]
  constructor
  · exact hcfg ▸ h.wf
  · exact hwords ▸ h.wf'
  · exact hbits ▸ h.bits_pos
  · exact hbits ▸ hcfg ▸ h.bits_fit
  · exact hcfg ▸ h.down
  · exact hcfg ▸ h.up
  · exact hsent ▸ hcmd ▸ h.sent

/-- A loaded command agrees in the bits of a frame (20_memory.md R53). -/
theorem SameSent.selCmd (h : SameSent w u y) : AgreeBelow u.cfg.frameLen (selCmd (w.put env y u)) (selCmd u) := by
  have hlowering : (w.put env y u).lowering = u.lowering := rfl
  rw [Machine.selCmd, Machine.selCmd, hlowering]
  split
  · exact h.down
  · exact h.up

/-- Each operation of a frame shifts the sent bit out of the ones that must agree, or loads a whole frame that agrees
(41_encoder.md R102 to R108). -/
theorem SameSent.timer (h : SameSent w u y) (hentry : TimerEntry u a) (hd : decode (osw .timer u) = .ok i) :
    SameSent w a (cmdAfter i (w.put env y u)) := by
  obtain ⟨-, ⟨hlen, -⟩, -, -, ⟨⟨hdelay, -⟩, -⟩, -⟩ := Config.wf_ranges h.wf
  have hframe := trunc_frameLen h.wf
  have hsent := h.sent
  cases hentry with
  | reservedPhase _ hop => exact absurd (hop.symm.trans hd) nofun
  | on hphase hop =>
    obtain rfl := Except.ok.inj (hop.symm.trans hd)
    rw [sentBits_of_frame (by simp [hphase])] at hsent
    exact ⟨h.wf, h.wf', h.bits_pos, h.bits_fit, h.down, h.up, hsent⟩
  | offNext hphase hbits hop =>
    obtain rfl := Except.ok.inj (hop.symm.trans hd)
    rw [sentBits_of_frame (by simp [hphase])] at hsent
    have hdec : dec u.cfg.cntW u.bits = u.bits - 1 := dec_of_pos h.bits_pos h.bits_fit
    refine ⟨h.wf, h.wf', Nat.pos_of_ne_zero hbits, dec_lt _ _, h.down, h.up, ?_⟩
    change AgreeBelow (dec u.cfg.cntW u.bits) _ _
    rw [hdec]
    exact hsent.shift.trunc _
  | offEnd _ _ hop =>
    obtain rfl := Except.ok.inj (hop.symm.trans hd)
    exact ⟨h.wf, h.wf', hdelay.trans_eq (trunc_delayLen h.wf).symm, trunc_lt _ _, h.down, h.up, h.selCmd.trunc _⟩
  | delayWait hphase hbits hop =>
    obtain rfl := Except.ok.inj (hop.symm.trans hd)
    rw [sentBits_of_delay hphase] at hsent
    refine ⟨h.wf, h.wf', Nat.pos_of_ne_zero hbits, dec_lt _ _, h.down, h.up, ?_⟩
    simp only [sentBits, hphase, if_true]
    exact hsent
  | delayNext hphase _ _ hop | delayHalt hphase _ _ _ hop =>
    obtain rfl := Except.ok.inj (hop.symm.trans hd)
    rw [sentBits_of_delay hphase] at hsent
    refine ⟨h.wf, h.wf', hlen.trans_eq hframe.symm, trunc_lt _ _, h.down, h.up, ?_⟩
    change AgreeBelow (trunc u.cfg.cntW u.cfg.frameLen) _ _
    rw [hframe]
    exact hsent
  | delayFailsafe _ _ _ _ _ hop =>
    obtain rfl := Except.ok.inj (hop.symm.trans hd)
    refine ⟨h.wf, h.wf', hlen.trans_eq hframe.symm, trunc_lt _ _, h.down, h.up, ?_⟩
    change AgreeBelow (trunc u.cfg.cntW u.cfg.frameLen) _ _
    rw [hframe]
    exact h.up.trunc _

theorem carried_sameSent (w : Words) : Carried w (SameSent w) where
  wf h := h.wf'.trans h.wf.symm
  lowBit h := h.sent 0 (sentBits_pos h.wf h.bits_pos)
  encoder h := h.encoder
  timer h := h.timer

/-- Settles O47: at reset the two builds differ in words that `SameSent` lets differ (00_scope.md R8). -/
theorem unsentCommandBitsNeverShow : Obligations.UnsentCommandBitsNeverShow := by
  intro n c d env hc hd ⟨hsame, hdown, hup⟩
  obtain ⟨-, ⟨hlen, -, hfit⟩, -⟩ := Config.wf_ranges hc
  let w : Words := ⟨d.cmdDown, d.cmdUp, c.clockDiv⟩
  have hput : State.resetWith d env = w.put env d.cmdDown (State.resetWith c env) := by
    rw [hsame]
    rfl
  have hwf' : (w.put [] d.cmdDown (State.resetWith c env)).cfg.wf = true := by
    rw [hsame] at hd
    exact hd
  have hs : SameSent w (State.resetWith c env) d.cmdDown :=
    ⟨hc, hwf', hlen, hfit, agreeBelow_of_mod_eq hdown.symm, agreeBelow_of_mod_eq hup.symm,
      agreeBelow_of_mod_eq hdown.symm⟩
  rw [hput]
  exact (observe_put (carried_sameSent w) n hs).symm

/-! ### Edges without the failsafe path -/

/-- `s` with another script and another latched edge. -/
def withEdges (x : Bool) (env : List Env) (s : State) : State := writeCif x (writeScript env s)

/-- `t` is `s` without the edges of its script, in a block that no edge can interrupt (60_exceptions.md R147). -/
structure NoEdges (x : Bool) (s t : State) : Prop where
  edges : t = withEdges x (withoutEdges s.script) s
  path : s.cfg.failsafeEn = false
  cie : s.cie = false

theorem nextEnv_withoutEdges (x : Bool) (s : State) :
    nextEnv (withEdges x (withoutEdges s.script) s) = { nextEnv s with fall := false } := by
  cases hscript : s.script <;> simp [nextEnv, withEdges, writeCif, writeScript, withoutEdges, hscript, Env.quiet]

theorem withoutEdges_tail (env : List Env) : withoutEdges env.tail = (withoutEdges env).tail := List.map_tail ..

theorem afterFront_withoutEdges (x : Bool) (s : State) :
    afterFront (withEdges x (withoutEdges s.script) s) =
      withEdges x (withoutEdges (afterFront s).script) (afterFront s) := by
  have htimer :
      timerTick (withEdges x (withoutEdges s.script) s) = withEdges x (withoutEdges s.script) (timerTick s) := by
    rw [timerTick_eq, timerTick_eq, apply_ite (withEdges x (withoutEdges s.script))]
    rfl
  have htail : (afterFront s).script = s.script.tail := rfl
  rw [htail, withoutEdges_tail, afterFront, htimer, nextEnv_withoutEdges]
  simp [withEdges, writeCif, writeScript, afterFront]

theorem put_self (env : List Env) (h : a.cfg = u.cfg) :
    Words.put ⟨u.cfg.cmdDown, u.cfg.cmdUp, u.cfg.clockDiv⟩ env a.cmd a = writeScript env a := by
  rw [← h]
  rfl

/-- No sub-step reads the rest of the script. -/
theorem runTick_writeScript {e : Env} (hcfg : a.cfg = u.cfg) (h : runTick e u = .next a) :
    runTick e (writeScript env u) = .next (writeScript env a) := by
  have hu : SameCommands ⟨u.cfg.cmdDown, u.cfg.cmdUp, u.cfg.clockDiv⟩ u u.cmd := ⟨rfl, rfl, rfl⟩
  obtain ⟨y, hrun, rfl, -⟩ := runTick_put (carried_sameCommands _) (env := env) hu h
  rwa [put_self env rfl, put_self env hcfg] at hrun

theorem preambleTick_writeScript (env : List Env) (u : State) :
    preambleTick (writeScript env u) = writeScript env (preambleTick u) := by
  rw [preambleTick_eq, preambleTick_eq, apply_ite (writeScript env), apply_ite (writeScript env)]
  rfl

/-- No step arms the monitor without the failsafe path (41_encoder.md R108): DELAY.FAILSAFE has FS = 1. -/
theorem step_cie_off (hpath : s.cfg.failsafeEn = false) (hcie : s.cie = false) (h : step s = .next t) :
    t.cie = false := by
  obtain hkeep | ⟨-, i, hop, hname⟩ | ⟨hoff, -⟩ := step_cie_kept_or_written h
  · exact hkeep.trans hcie
  · have hformable := onlyFormableOperationsRun s i hop
    cases i with
    | delayFailsafe => simp [Instr.wf, Instr.fsBit, hpath] at hformable
    | _ => simp [Instr.mnemonic] at hname
  · exact hoff

/-- A step goes the same way without the edges: the latch alone reads an edge, and while line C is disabled nothing
reads `CIF` (60_exceptions.md R147, R150). -/
theorem step_withoutEdges (x : Bool) (hcie : s.cie = false) (h : step s = .next t) :
    step (withEdges x (withoutEdges s.script) s) = .next (withEdges x (withoutEdges t.script) t) := by
  obtain ⟨hwf, hfault, hpower, hcases⟩ := step_cases h
  have henv := nextEnv_withoutEdges x s
  have hready : (nextEnv s).powerOff = false → Ready (withEdges x (withoutEdges s.script) s) :=
    fun hon => ⟨hwf, hfault, hpower, by rw [henv]; exact hon⟩
  have hfront : atSequencer (withEdges x (withoutEdges s.script) s) =
      withEdges x (withoutEdges (afterFront s).script) (afterFront s) :=
    (atSequencer_eq _).trans (afterFront_withoutEdges x s)
  have htail := withoutEdges_tail s.script
  rw [← atSequencer, atSequencer_eq] at hcases
  obtain ⟨hoff, rfl⟩ | ⟨hon, hx, rfl⟩ | ⟨hon, hx, rfl⟩ | ⟨hon, hx, rfl⟩ | ⟨hon, hx, hrun⟩ := hcases
  · have hstop := powerCollapseStopsTheTick (withEdges x (withoutEdges s.script) s) hwf hfault hpower (henv ▸ hoff)
    refine hstop.trans ?_
    simp [withEdges, writeCif, writeScript, writePower, consumeEnv, htail]
  · refine ((modelFaultsAreRecorded _ (hready hon)).1 hx).trans ?_
    simp only [withEdges, writeCif, writeScript, raiseFault, consumeEnv, htail, hfault]
    rfl
  · rw [step_of_reset (hready hon) hx, hfront]
    rfl
  · have hscript := (configurationNeverChanges s _ h).2
    rw [step_of_preamble (hready hon) hx, hfront, hscript, withEdges, preambleTick_writeCif, preambleTick_writeScript]
    rfl
  · have hscript := (configurationNeverChanges s t h).2
    have hcfg : t.cfg = (afterFront s).cfg := (step_cfg h).trans rfl
    have hplain := runTick_writeScript (env := withoutEdges s.script.tail) hcfg hrun
    rw [step_of_run (hready hon) hx, hfront, henv, hscript]
    exact runTick_writeCif x hcie hplain

/-- Settles O48, by a simulation that drops the edges (60_exceptions.md R147). -/
theorem edgesNeverShowWithoutTheFailsafe : Obligations.EdgesNeverShowWithoutTheFailsafe := by
  intro n s x hpath hcie
  refine observe_eq_of_simulation (R := NoEdges x) ?_ ?_ n ⟨rfl, hpath, hcie⟩
  · rintro s t ⟨rfl, -⟩
    exact ⟨rfl, rfl, rfl, rfl⟩
  · rintro s t s' ⟨rfl, hpath, hcie⟩ hstep
    exact ⟨_, step_withoutEdges x hcie hstep, rfl, (step_cfg hstep) ▸ hpath, step_cie_off hpath hcie hstep⟩

end Sys2Proof.Proofs
